-- ==== Sys2Proof/Config.lean ====
section
/-! DEFINITION. What an implementation fixes: the register sizes (00_scope.md rule R8), and the one parameter the spec leaves
open (92_eei_decisions.md, row D23). -/

namespace Sys2Proof

/-- `SHORT_BITS` of 00_scope.md rule R8. -/
abbrev Config.shortBits : Nat := 64

/-- `FULL_BITS` of 00_scope.md rule R8. -/
abbrev Config.fullBits : Nat := 128

/-- `LATENCY`, the cycles from operands to result in an implementation that registers its ports: a natural number the spec
leaves open and on which no rule depends (70_reset_and_hazards.md rule R186). It has no body, so that no proof can know its
value; the model has no time, and nothing reads it (assumption log entry 3). -/
opaque Config.latency : Nat

end Sys2Proof
end

