-- ==== Sys2Proof/Word.lean ====
section
/-! DEFINITION. The widths of the ports, as bit vector types (10_state.md rules R26 and R27; 00_scope.md rule R10). -/

namespace Sys2Proof

/-- The 16-bit command word of port `CMD` (30_encoding.md rule R55). -/
abbrev Command := BitVec 16

/-- A register value on a 128-bit vector port (10_state.md rule R26); a short register is its bits 63..0 (rule R28). -/
abbrev Vec := BitVec 128

/-- A value on one of the 64-bit scalar ports `S` and `X` (10_state.md rules R26 and R27). -/
abbrev Scalar := BitVec 64

/-- A lane index on port `IDX`, an unsigned 8-bit integer (30_encoding.md rule R66). -/
abbrev LaneIndex := BitVec 8

end Sys2Proof
end

