-- ==== Sys2Proof/Syntax.lean ====
section
/-! DEFINITION. The commands of the block: one constructor of `Instr` per row of spec/opcode_table.json, the fields of a
command word (30_encoding.md rule R55), and the grammar of a mnemonic (rule R67) as the type `Form`. -/

namespace Sys2Proof

/-- The two register sizes, short (64 bits) and full (128 bits): the `q` bit of a command (30_encoding.md rule R58). -/
inductive RegSize where
  | short
  | full
deriving DecidableEq, Repr

/-- The type letter of a command, `s` or `u` (30_encoding.md rule R59). -/
inductive Sign where
  | signed
  | unsigned
deriving DecidableEq, Repr

/-- The lane widths 8, 16, 32 and 64 (00_scope.md rule R9), the `sz` field of a command (30_encoding.md rule R60). -/
inductive Width where
  | w8
  | w16
  | w32
  | w64
deriving DecidableEq, Repr

/-- The number of table registers of `tbl` and `tbx`, 1 to 4: the `nr` field plus one (30_encoding.md rule R61). -/
inductive TableCount where
  | one
  | two
  | three
  | four
deriving DecidableEq, Repr

/-- What a mnemonic says (30_encoding.md rule R67): an operation with the register size, type letter, lane width and table
count it names. A narrowing and a widening have one register size (rule R58), `narrow_satun` and `qd` one type letter
(rule R59), `tbl` and `tbx` one lane width (rule R60). -/
inductive Form where
  | satAdd (q : RegSize) (t : Sign) (w : Width)
  | satSub (q : RegSize) (t : Sign) (w : Width)
  | satAbs (q : RegSize) (t : Sign) (w : Width)
  | satNeg (q : RegSize) (t : Sign) (w : Width)
  | hadd (q : RegSize) (t : Sign) (w : Width)
  | rhadd (q : RegSize) (t : Sign) (w : Width)
  | hsub (q : RegSize) (t : Sign) (w : Width)
  | narrow (t : Sign) (w : Width)
  | narrowSat (t : Sign) (w : Width)
  | narrowSatun (w : Width)
  | widen (t : Sign) (w : Width)
  | extractLane (q : RegSize) (t : Sign) (w : Width)
  | insertLane (q : RegSize) (t : Sign) (w : Width)
  | tbl (n : TableCount) (q : RegSize) (t : Sign)
  | tbx (n : TableCount) (q : RegSize) (t : Sign)
  | qd (q : RegSize) (w : Width)
deriving DecidableEq, Repr

/-- The fields of a command word, most significant first (30_encoding.md rule R55). -/
structure Fields where
  unit : BitVec 4
  fn : BitVec 4
  q : BitVec 1
  u : BitVec 1
  sz : BitVec 2
  nr : BitVec 2
  zero : BitVec 2
deriving DecidableEq, Repr

/-- The 205 commands, one per row of spec/opcode_table.json and in its order (30_encoding.md rules R63 and R72). No command
carries an operand (rule R65). -/
inductive Instr where
  -- sat_add
  | satAddS8
  | satAddS16
  | satAddS32
  | satAddS64
  | satAddU8
  | satAddU16
  | satAddU32
  | satAddU64
  | satAddQS8
  | satAddQS16
  | satAddQS32
  | satAddQS64
  | satAddQU8
  | satAddQU16
  | satAddQU32
  | satAddQU64
  -- sat_sub
  | satSubS8
  | satSubS16
  | satSubS32
  | satSubS64
  | satSubU8
  | satSubU16
  | satSubU32
  | satSubU64
  | satSubQS8
  | satSubQS16
  | satSubQS32
  | satSubQS64
  | satSubQU8
  | satSubQU16
  | satSubQU32
  | satSubQU64
  -- sat_abs
  | satAbsS8
  | satAbsS16
  | satAbsS32
  | satAbsS64
  | satAbsU8
  | satAbsU16
  | satAbsU32
  | satAbsU64
  | satAbsQS8
  | satAbsQS16
  | satAbsQS32
  | satAbsQS64
  | satAbsQU8
  | satAbsQU16
  | satAbsQU32
  | satAbsQU64
  -- sat_neg
  | satNegS8
  | satNegS16
  | satNegS32
  | satNegS64
  | satNegU8
  | satNegU16
  | satNegU32
  | satNegU64
  | satNegQS8
  | satNegQS16
  | satNegQS32
  | satNegQS64
  | satNegQU8
  | satNegQU16
  | satNegQU32
  | satNegQU64
  -- hadd
  | haddS8
  | haddS16
  | haddS32
  | haddS64
  | haddU8
  | haddU16
  | haddU32
  | haddU64
  | haddQS8
  | haddQS16
  | haddQS32
  | haddQS64
  | haddQU8
  | haddQU16
  | haddQU32
  | haddQU64
  -- rhadd
  | rhaddS8
  | rhaddS16
  | rhaddS32
  | rhaddS64
  | rhaddU8
  | rhaddU16
  | rhaddU32
  | rhaddU64
  | rhaddQS8
  | rhaddQS16
  | rhaddQS32
  | rhaddQS64
  | rhaddQU8
  | rhaddQU16
  | rhaddQU32
  | rhaddQU64
  -- hsub
  | hsubS8
  | hsubS16
  | hsubS32
  | hsubS64
  | hsubU8
  | hsubU16
  | hsubU32
  | hsubU64
  | hsubQS8
  | hsubQS16
  | hsubQS32
  | hsubQS64
  | hsubQU8
  | hsubQU16
  | hsubQU32
  | hsubQU64
  -- narrow
  | narrowS16
  | narrowS32
  | narrowS64
  | narrowU16
  | narrowU32
  | narrowU64
  -- narrow_sat
  | narrowSatS16
  | narrowSatS32
  | narrowSatS64
  | narrowSatU16
  | narrowSatU32
  | narrowSatU64
  -- narrow_satun
  | narrowSatunS16
  | narrowSatunS32
  | narrowSatunS64
  -- widen
  | widenS8
  | widenS16
  | widenS32
  | widenU8
  | widenU16
  | widenU32
  -- extract_lane
  | extractLaneS8
  | extractLaneS16
  | extractLaneS32
  | extractLaneS64
  | extractLaneU8
  | extractLaneU16
  | extractLaneU32
  | extractLaneU64
  | extractLaneQS8
  | extractLaneQS16
  | extractLaneQS32
  | extractLaneQS64
  | extractLaneQU8
  | extractLaneQU16
  | extractLaneQU32
  | extractLaneQU64
  -- insert_lane
  | insertLaneS8
  | insertLaneS16
  | insertLaneS32
  | insertLaneS64
  | insertLaneU8
  | insertLaneU16
  | insertLaneU32
  | insertLaneU64
  | insertLaneQS8
  | insertLaneQS16
  | insertLaneQS32
  | insertLaneQS64
  | insertLaneQU8
  | insertLaneQU16
  | insertLaneQU32
  | insertLaneQU64
  -- tbl
  | tbl1S8
  | tbl2S8
  | tbl3S8
  | tbl4S8
  | tbl1U8
  | tbl2U8
  | tbl3U8
  | tbl4U8
  | tbl1QS8
  | tbl2QS8
  | tbl3QS8
  | tbl4QS8
  | tbl1QU8
  | tbl2QU8
  | tbl3QU8
  | tbl4QU8
  -- tbx
  | tbx1S8
  | tbx2S8
  | tbx3S8
  | tbx4S8
  | tbx1U8
  | tbx2U8
  | tbx3U8
  | tbx4U8
  | tbx1QS8
  | tbx2QS8
  | tbx3QS8
  | tbx4QS8
  | tbx1QU8
  | tbx2QU8
  | tbx3QU8
  | tbx4QU8
  -- qd
  | qdS8
  | qdS16
  | qdS32
  | qdS64
  | qdQS8
  | qdQS16
  | qdQS32
  | qdQS64
deriving DecidableEq, Repr

end Sys2Proof
end

