-- ==== Sys2Proof/WellFormed.lean ====
section
/-! DEFINITION. Which fields make a legal command word (30_encoding.md rule R63) and which lane widths an operation admits
(rule R60). -/

namespace Sys2Proof

/-- One row of the table of 30_encoding.md rule R63: a unit and function code with the values it admits in the other
fields. -/
structure LegalRow where
  unit : BitVec 4
  fn : BitVec 4
  qs : List (BitVec 1)
  us : List (BitVec 1)
  szs : List (BitVec 2)
  nrs : List (BitVec 2)
deriving DecidableEq, Repr

/-- The table of 30_encoding.md rule R63, row by row. -/
def legalRows : List LegalRow :=
  [ -- sat_add s, sat_add u
    { unit := 1, fn := 0, qs := [0, 1], us := [0], szs := [0, 1, 2, 3], nrs := [0] },
    { unit := 1, fn := 0, qs := [0, 1], us := [1], szs := [0, 1, 2, 3], nrs := [0] },
    -- sat_sub s, sat_sub u
    { unit := 2, fn := 0, qs := [0, 1], us := [0], szs := [0, 1, 2, 3], nrs := [0] },
    { unit := 2, fn := 0, qs := [0, 1], us := [1], szs := [0, 1, 2, 3], nrs := [0] },
    -- sat_abs s, sat_abs u, sat_neg s, sat_neg u
    { unit := 3, fn := 0, qs := [0, 1], us := [0], szs := [0, 1, 2, 3], nrs := [0] },
    { unit := 3, fn := 0, qs := [0, 1], us := [1], szs := [0, 1, 2, 3], nrs := [0] },
    { unit := 3, fn := 1, qs := [0, 1], us := [0], szs := [0, 1, 2, 3], nrs := [0] },
    { unit := 3, fn := 1, qs := [0, 1], us := [1], szs := [0, 1, 2, 3], nrs := [0] },
    -- hadd s, hadd u, rhadd s, rhadd u
    { unit := 4, fn := 0, qs := [0, 1], us := [0], szs := [0, 1, 2, 3], nrs := [0] },
    { unit := 4, fn := 0, qs := [0, 1], us := [1], szs := [0, 1, 2, 3], nrs := [0] },
    { unit := 4, fn := 1, qs := [0, 1], us := [0], szs := [0, 1, 2, 3], nrs := [0] },
    { unit := 4, fn := 1, qs := [0, 1], us := [1], szs := [0, 1, 2, 3], nrs := [0] },
    -- hsub s, hsub u
    { unit := 5, fn := 0, qs := [0, 1], us := [0], szs := [0, 1, 2, 3], nrs := [0] },
    { unit := 5, fn := 0, qs := [0, 1], us := [1], szs := [0, 1, 2, 3], nrs := [0] },
    -- narrow, narrow_sat s, narrow_sat u, narrow_satun
    { unit := 6, fn := 0, qs := [0], us := [0, 1], szs := [1, 2, 3], nrs := [0] },
    { unit := 6, fn := 1, qs := [0], us := [0], szs := [1, 2, 3], nrs := [0] },
    { unit := 6, fn := 1, qs := [0], us := [1], szs := [1, 2, 3], nrs := [0] },
    { unit := 6, fn := 2, qs := [0], us := [0], szs := [1, 2, 3], nrs := [0] },
    -- widen s, widen u
    { unit := 7, fn := 0, qs := [0], us := [0], szs := [0, 1, 2], nrs := [0] },
    { unit := 7, fn := 0, qs := [0], us := [1], szs := [0, 1, 2], nrs := [0] },
    -- extract_lane, insert_lane
    { unit := 8, fn := 0, qs := [0, 1], us := [0, 1], szs := [0, 1, 2, 3], nrs := [0] },
    { unit := 9, fn := 0, qs := [0, 1], us := [0, 1], szs := [0, 1, 2, 3], nrs := [0] },
    -- tbl1..tbl4, tbx1..tbx4
    { unit := 10, fn := 0, qs := [0, 1], us := [0, 1], szs := [0], nrs := [0, 1, 2, 3] },
    { unit := 10, fn := 1, qs := [0, 1], us := [0, 1], szs := [0], nrs := [0, 1, 2, 3] },
    -- qd
    { unit := 11, fn := 0, qs := [0, 1], us := [0], szs := [0, 1, 2, 3], nrs := [0] } ]

/-- Whether the fields match this row (30_encoding.md rule R63). -/
def LegalRow.admits (r : LegalRow) (f : Fields) : Bool :=
  f.unit == r.unit && f.fn == r.fn && r.qs.contains f.q && r.us.contains f.u && r.szs.contains f.sz && r.nrs.contains f.nr

/-- How many words the row admits, the count column of 30_encoding.md rule R63. -/
def LegalRow.count (r : LegalRow) : Nat :=
  r.qs.length * r.us.length * r.szs.length * r.nrs.length

/-- Whether the fields are those of a legal command word: bits `[1:0]` are zero (30_encoding.md rule R62) and the rest
match one row (rule R63). -/
def Fields.legal (f : Fields) : Bool :=
  f.zero == 0 && legalRows.any (fun r => r.admits f)

/-- Whether an operation admits the lane width its form names: a narrowing has no 8-bit operand lanes, a widening no 64-bit
ones (30_encoding.md rule R60). -/
def Form.wf : Form → Bool
  | .narrow _ w => w != .w8
  | .narrowSat _ w => w != .w8
  | .narrowSatun w => w != .w8
  | .widen _ w => w != .w64
  | _ => true

end Sys2Proof
end

