-- ==== Sys2Proof/Decode.lean ====
section
/-! DEFINITION. Decoding a command word (30_encoding.md rule R69), total on all 65536 words and answering `invalid` for a
reserved one, and after it the encoder, written from the same fields (rules R55 to R63) but from the command's side. The
mnemonics and operand order of rules R67 and R68 stand at the end. -/

namespace Sys2Proof

/-- What the decoder answers (30_encoding.md rule R69): a legal command, or `invalid` for a reserved word (rule R64). -/
inductive Decoded where
  | command (i : Instr)
  | invalid
deriving DecidableEq, Repr

/-- The fields of a command word at their places (30_encoding.md rule R55). -/
def Fields.ofWord (c : Command) : Fields where
  unit := c.extractLsb' 12 4
  fn := c.extractLsb' 8 4
  q := c.extractLsb' 7 1
  u := c.extractLsb' 6 1
  sz := c.extractLsb' 4 2
  nr := c.extractLsb' 2 2
  zero := c.extractLsb' 0 2

/-- The register size of a `q` bit (30_encoding.md rule R58). -/
def RegSize.ofBit (b : BitVec 1) : RegSize :=
  if b = 0 then .short else .full

/-- The type letter of a `u` bit (30_encoding.md rule R59). -/
def Sign.ofBit (b : BitVec 1) : Sign :=
  if b = 0 then .signed else .unsigned

/-- The lane width of an `sz` field, `W = 8 << sz` (30_encoding.md rule R60). -/
def Width.ofBits (b : BitVec 2) : Width :=
  if b = 0 then .w8 else if b = 1 then .w16 else if b = 2 then .w32 else .w64

/-- The table count of an `nr` field, `N = nr + 1` (30_encoding.md rule R61). -/
def TableCount.ofBits (b : BitVec 2) : TableCount :=
  if b = 0 then .one else if b = 1 then .two else if b = 2 then .three else .four

/-- The form of the given fields, or none where they match no row of 30_encoding.md rule R63 or set a bit that must be zero
(rule R62). Which lane widths a narrowing or widening admits is left to `Form.instr`. -/
def Fields.form (f : Fields) : Option Form :=
  let q := RegSize.ofBit f.q
  let t := Sign.ofBit f.u
  let w := Width.ofBits f.sz
  if f.zero ≠ 0 then none
  else if f.unit = 10 then
    if f.sz ≠ 0 then none
    else if f.fn = 0 then some (.tbl (TableCount.ofBits f.nr) q t)
    else if f.fn = 1 then some (.tbx (TableCount.ofBits f.nr) q t)
    else none
  else if f.nr ≠ 0 then none
  else if f.unit = 1 then if f.fn = 0 then some (.satAdd q t w) else none
  else if f.unit = 2 then if f.fn = 0 then some (.satSub q t w) else none
  else if f.unit = 3 then
    if f.fn = 0 then some (.satAbs q t w) else if f.fn = 1 then some (.satNeg q t w) else none
  else if f.unit = 4 then
    if f.fn = 0 then some (.hadd q t w) else if f.fn = 1 then some (.rhadd q t w) else none
  else if f.unit = 5 then if f.fn = 0 then some (.hsub q t w) else none
  else if f.unit = 6 then
    if f.q ≠ 0 then none
    else if f.fn = 0 then some (.narrow t w)
    else if f.fn = 1 then some (.narrowSat t w)
    else if f.fn = 2 then if f.u = 0 then some (.narrowSatun w) else none
    else none
  else if f.unit = 7 then
    if f.q ≠ 0 then none else if f.fn = 0 then some (.widen t w) else none
  else if f.unit = 8 then if f.fn = 0 then some (.extractLane q t w) else none
  else if f.unit = 9 then if f.fn = 0 then some (.insertLane q t w) else none
  else if f.unit = 11 then if f.fn = 0 ∧ f.u = 0 then some (.qd q w) else none
  else none

/-- The `sat_add[q]_<t><W>` command (30_encoding.md rule R67). -/
def Instr.ofSatAdd : RegSize → Sign → Width → Instr
  | .short, .signed, .w8 => .satAddS8
  | .short, .signed, .w16 => .satAddS16
  | .short, .signed, .w32 => .satAddS32
  | .short, .signed, .w64 => .satAddS64
  | .short, .unsigned, .w8 => .satAddU8
  | .short, .unsigned, .w16 => .satAddU16
  | .short, .unsigned, .w32 => .satAddU32
  | .short, .unsigned, .w64 => .satAddU64
  | .full, .signed, .w8 => .satAddQS8
  | .full, .signed, .w16 => .satAddQS16
  | .full, .signed, .w32 => .satAddQS32
  | .full, .signed, .w64 => .satAddQS64
  | .full, .unsigned, .w8 => .satAddQU8
  | .full, .unsigned, .w16 => .satAddQU16
  | .full, .unsigned, .w32 => .satAddQU32
  | .full, .unsigned, .w64 => .satAddQU64

/-- The `sat_sub[q]_<t><W>` command (30_encoding.md rule R67). -/
def Instr.ofSatSub : RegSize → Sign → Width → Instr
  | .short, .signed, .w8 => .satSubS8
  | .short, .signed, .w16 => .satSubS16
  | .short, .signed, .w32 => .satSubS32
  | .short, .signed, .w64 => .satSubS64
  | .short, .unsigned, .w8 => .satSubU8
  | .short, .unsigned, .w16 => .satSubU16
  | .short, .unsigned, .w32 => .satSubU32
  | .short, .unsigned, .w64 => .satSubU64
  | .full, .signed, .w8 => .satSubQS8
  | .full, .signed, .w16 => .satSubQS16
  | .full, .signed, .w32 => .satSubQS32
  | .full, .signed, .w64 => .satSubQS64
  | .full, .unsigned, .w8 => .satSubQU8
  | .full, .unsigned, .w16 => .satSubQU16
  | .full, .unsigned, .w32 => .satSubQU32
  | .full, .unsigned, .w64 => .satSubQU64

/-- The `sat_abs[q]_<t><W>` command (30_encoding.md rule R67). -/
def Instr.ofSatAbs : RegSize → Sign → Width → Instr
  | .short, .signed, .w8 => .satAbsS8
  | .short, .signed, .w16 => .satAbsS16
  | .short, .signed, .w32 => .satAbsS32
  | .short, .signed, .w64 => .satAbsS64
  | .short, .unsigned, .w8 => .satAbsU8
  | .short, .unsigned, .w16 => .satAbsU16
  | .short, .unsigned, .w32 => .satAbsU32
  | .short, .unsigned, .w64 => .satAbsU64
  | .full, .signed, .w8 => .satAbsQS8
  | .full, .signed, .w16 => .satAbsQS16
  | .full, .signed, .w32 => .satAbsQS32
  | .full, .signed, .w64 => .satAbsQS64
  | .full, .unsigned, .w8 => .satAbsQU8
  | .full, .unsigned, .w16 => .satAbsQU16
  | .full, .unsigned, .w32 => .satAbsQU32
  | .full, .unsigned, .w64 => .satAbsQU64

/-- The `sat_neg[q]_<t><W>` command (30_encoding.md rule R67). -/
def Instr.ofSatNeg : RegSize → Sign → Width → Instr
  | .short, .signed, .w8 => .satNegS8
  | .short, .signed, .w16 => .satNegS16
  | .short, .signed, .w32 => .satNegS32
  | .short, .signed, .w64 => .satNegS64
  | .short, .unsigned, .w8 => .satNegU8
  | .short, .unsigned, .w16 => .satNegU16
  | .short, .unsigned, .w32 => .satNegU32
  | .short, .unsigned, .w64 => .satNegU64
  | .full, .signed, .w8 => .satNegQS8
  | .full, .signed, .w16 => .satNegQS16
  | .full, .signed, .w32 => .satNegQS32
  | .full, .signed, .w64 => .satNegQS64
  | .full, .unsigned, .w8 => .satNegQU8
  | .full, .unsigned, .w16 => .satNegQU16
  | .full, .unsigned, .w32 => .satNegQU32
  | .full, .unsigned, .w64 => .satNegQU64

/-- The `hadd[q]_<t><W>` command (30_encoding.md rule R67). -/
def Instr.ofHadd : RegSize → Sign → Width → Instr
  | .short, .signed, .w8 => .haddS8
  | .short, .signed, .w16 => .haddS16
  | .short, .signed, .w32 => .haddS32
  | .short, .signed, .w64 => .haddS64
  | .short, .unsigned, .w8 => .haddU8
  | .short, .unsigned, .w16 => .haddU16
  | .short, .unsigned, .w32 => .haddU32
  | .short, .unsigned, .w64 => .haddU64
  | .full, .signed, .w8 => .haddQS8
  | .full, .signed, .w16 => .haddQS16
  | .full, .signed, .w32 => .haddQS32
  | .full, .signed, .w64 => .haddQS64
  | .full, .unsigned, .w8 => .haddQU8
  | .full, .unsigned, .w16 => .haddQU16
  | .full, .unsigned, .w32 => .haddQU32
  | .full, .unsigned, .w64 => .haddQU64

/-- The `rhadd[q]_<t><W>` command (30_encoding.md rule R67). -/
def Instr.ofRhadd : RegSize → Sign → Width → Instr
  | .short, .signed, .w8 => .rhaddS8
  | .short, .signed, .w16 => .rhaddS16
  | .short, .signed, .w32 => .rhaddS32
  | .short, .signed, .w64 => .rhaddS64
  | .short, .unsigned, .w8 => .rhaddU8
  | .short, .unsigned, .w16 => .rhaddU16
  | .short, .unsigned, .w32 => .rhaddU32
  | .short, .unsigned, .w64 => .rhaddU64
  | .full, .signed, .w8 => .rhaddQS8
  | .full, .signed, .w16 => .rhaddQS16
  | .full, .signed, .w32 => .rhaddQS32
  | .full, .signed, .w64 => .rhaddQS64
  | .full, .unsigned, .w8 => .rhaddQU8
  | .full, .unsigned, .w16 => .rhaddQU16
  | .full, .unsigned, .w32 => .rhaddQU32
  | .full, .unsigned, .w64 => .rhaddQU64

/-- The `hsub[q]_<t><W>` command (30_encoding.md rule R67). -/
def Instr.ofHsub : RegSize → Sign → Width → Instr
  | .short, .signed, .w8 => .hsubS8
  | .short, .signed, .w16 => .hsubS16
  | .short, .signed, .w32 => .hsubS32
  | .short, .signed, .w64 => .hsubS64
  | .short, .unsigned, .w8 => .hsubU8
  | .short, .unsigned, .w16 => .hsubU16
  | .short, .unsigned, .w32 => .hsubU32
  | .short, .unsigned, .w64 => .hsubU64
  | .full, .signed, .w8 => .hsubQS8
  | .full, .signed, .w16 => .hsubQS16
  | .full, .signed, .w32 => .hsubQS32
  | .full, .signed, .w64 => .hsubQS64
  | .full, .unsigned, .w8 => .hsubQU8
  | .full, .unsigned, .w16 => .hsubQU16
  | .full, .unsigned, .w32 => .hsubQU32
  | .full, .unsigned, .w64 => .hsubQU64

/-- The `extract_lane[q]_<t><W>` command (30_encoding.md rule R67). -/
def Instr.ofExtractLane : RegSize → Sign → Width → Instr
  | .short, .signed, .w8 => .extractLaneS8
  | .short, .signed, .w16 => .extractLaneS16
  | .short, .signed, .w32 => .extractLaneS32
  | .short, .signed, .w64 => .extractLaneS64
  | .short, .unsigned, .w8 => .extractLaneU8
  | .short, .unsigned, .w16 => .extractLaneU16
  | .short, .unsigned, .w32 => .extractLaneU32
  | .short, .unsigned, .w64 => .extractLaneU64
  | .full, .signed, .w8 => .extractLaneQS8
  | .full, .signed, .w16 => .extractLaneQS16
  | .full, .signed, .w32 => .extractLaneQS32
  | .full, .signed, .w64 => .extractLaneQS64
  | .full, .unsigned, .w8 => .extractLaneQU8
  | .full, .unsigned, .w16 => .extractLaneQU16
  | .full, .unsigned, .w32 => .extractLaneQU32
  | .full, .unsigned, .w64 => .extractLaneQU64

/-- The `insert_lane[q]_<t><W>` command (30_encoding.md rule R67). -/
def Instr.ofInsertLane : RegSize → Sign → Width → Instr
  | .short, .signed, .w8 => .insertLaneS8
  | .short, .signed, .w16 => .insertLaneS16
  | .short, .signed, .w32 => .insertLaneS32
  | .short, .signed, .w64 => .insertLaneS64
  | .short, .unsigned, .w8 => .insertLaneU8
  | .short, .unsigned, .w16 => .insertLaneU16
  | .short, .unsigned, .w32 => .insertLaneU32
  | .short, .unsigned, .w64 => .insertLaneU64
  | .full, .signed, .w8 => .insertLaneQS8
  | .full, .signed, .w16 => .insertLaneQS16
  | .full, .signed, .w32 => .insertLaneQS32
  | .full, .signed, .w64 => .insertLaneQS64
  | .full, .unsigned, .w8 => .insertLaneQU8
  | .full, .unsigned, .w16 => .insertLaneQU16
  | .full, .unsigned, .w32 => .insertLaneQU32
  | .full, .unsigned, .w64 => .insertLaneQU64

/-- The `narrow_<t><W>` command; none for the lane width 8 it does not admit (30_encoding.md rules R60 and R67). -/
def Instr.ofNarrow : Sign → Width → Option Instr
  | .signed, .w16 => some .narrowS16
  | .signed, .w32 => some .narrowS32
  | .signed, .w64 => some .narrowS64
  | .unsigned, .w16 => some .narrowU16
  | .unsigned, .w32 => some .narrowU32
  | .unsigned, .w64 => some .narrowU64
  | _, .w8 => none

/-- The `narrow_sat_<t><W>` command; none for the lane width 8 it does not admit (30_encoding.md rules R60 and R67). -/
def Instr.ofNarrowSat : Sign → Width → Option Instr
  | .signed, .w16 => some .narrowSatS16
  | .signed, .w32 => some .narrowSatS32
  | .signed, .w64 => some .narrowSatS64
  | .unsigned, .w16 => some .narrowSatU16
  | .unsigned, .w32 => some .narrowSatU32
  | .unsigned, .w64 => some .narrowSatU64
  | _, .w8 => none

/-- The `widen_<t><W>` command; none for the lane width 64 it does not admit (30_encoding.md rules R60 and R67). -/
def Instr.ofWiden : Sign → Width → Option Instr
  | .signed, .w8 => some .widenS8
  | .signed, .w16 => some .widenS16
  | .signed, .w32 => some .widenS32
  | .unsigned, .w8 => some .widenU8
  | .unsigned, .w16 => some .widenU16
  | .unsigned, .w32 => some .widenU32
  | _, .w64 => none

/-- The `narrow_satun_s<W>` command; none for the lane width 8 it does not admit (30_encoding.md rules R60 and R67). -/
def Instr.ofNarrowSatun : Width → Option Instr
  | .w16 => some .narrowSatunS16
  | .w32 => some .narrowSatunS32
  | .w64 => some .narrowSatunS64
  | .w8 => none

/-- The `tbl<N>[q]_<t>8` command (30_encoding.md rule R67). -/
def Instr.ofTbl : TableCount → RegSize → Sign → Instr
  | .one, .short, .signed => .tbl1S8
  | .two, .short, .signed => .tbl2S8
  | .three, .short, .signed => .tbl3S8
  | .four, .short, .signed => .tbl4S8
  | .one, .short, .unsigned => .tbl1U8
  | .two, .short, .unsigned => .tbl2U8
  | .three, .short, .unsigned => .tbl3U8
  | .four, .short, .unsigned => .tbl4U8
  | .one, .full, .signed => .tbl1QS8
  | .two, .full, .signed => .tbl2QS8
  | .three, .full, .signed => .tbl3QS8
  | .four, .full, .signed => .tbl4QS8
  | .one, .full, .unsigned => .tbl1QU8
  | .two, .full, .unsigned => .tbl2QU8
  | .three, .full, .unsigned => .tbl3QU8
  | .four, .full, .unsigned => .tbl4QU8

/-- The `tbx<N>[q]_<t>8` command (30_encoding.md rule R67). -/
def Instr.ofTbx : TableCount → RegSize → Sign → Instr
  | .one, .short, .signed => .tbx1S8
  | .two, .short, .signed => .tbx2S8
  | .three, .short, .signed => .tbx3S8
  | .four, .short, .signed => .tbx4S8
  | .one, .short, .unsigned => .tbx1U8
  | .two, .short, .unsigned => .tbx2U8
  | .three, .short, .unsigned => .tbx3U8
  | .four, .short, .unsigned => .tbx4U8
  | .one, .full, .signed => .tbx1QS8
  | .two, .full, .signed => .tbx2QS8
  | .three, .full, .signed => .tbx3QS8
  | .four, .full, .signed => .tbx4QS8
  | .one, .full, .unsigned => .tbx1QU8
  | .two, .full, .unsigned => .tbx2QU8
  | .three, .full, .unsigned => .tbx3QU8
  | .four, .full, .unsigned => .tbx4QU8

/-- The `qd[q]_s<W>` command (30_encoding.md rule R67). -/
def Instr.ofQd : RegSize → Width → Instr
  | .short, .w8 => .qdS8
  | .short, .w16 => .qdS16
  | .short, .w32 => .qdS32
  | .short, .w64 => .qdS64
  | .full, .w8 => .qdQS8
  | .full, .w16 => .qdQS16
  | .full, .w32 => .qdQS32
  | .full, .w64 => .qdQS64

/-- The command of a form; none where the operation does not admit the lane width (30_encoding.md rule R60). -/
def Form.instr : Form → Option Instr
  | .satAdd q t w => some (.ofSatAdd q t w)
  | .satSub q t w => some (.ofSatSub q t w)
  | .satAbs q t w => some (.ofSatAbs q t w)
  | .satNeg q t w => some (.ofSatNeg q t w)
  | .hadd q t w => some (.ofHadd q t w)
  | .rhadd q t w => some (.ofRhadd q t w)
  | .hsub q t w => some (.ofHsub q t w)
  | .narrow t w => Instr.ofNarrow t w
  | .narrowSat t w => Instr.ofNarrowSat t w
  | .narrowSatun w => Instr.ofNarrowSatun w
  | .widen t w => Instr.ofWiden t w
  | .extractLane q t w => some (.ofExtractLane q t w)
  | .insertLane q t w => some (.ofInsertLane q t w)
  | .tbl n q t => some (.ofTbl n q t)
  | .tbx n q t => some (.ofTbx n q t)
  | .qd q w => some (.ofQd q w)

/-- Decoding a command word (30_encoding.md rule R69). -/
def decode (c : Command) : Decoded :=
  match (Fields.ofWord c).form.bind Form.instr with
  | some i => .command i
  | none => .invalid

/-- The command the decoder reads from the first `nbits` bits of `w`, bit 0 the least significant of the command word, every
bit above them zero. -/
def decodeTableWord (nbits w : Nat) : Option Instr :=
  match decode (BitVec.ofNat 16 (w % 2 ^ nbits)) with
  | .command i => some i
  | .invalid => none

/-! ## The encoder -/

/-- The form of a command, read from its mnemonic in spec/opcode_table.json (30_encoding.md rule R67). -/
def Instr.form : Instr → Form
  | .satAddS8 => .satAdd .short .signed .w8
  | .satAddS16 => .satAdd .short .signed .w16
  | .satAddS32 => .satAdd .short .signed .w32
  | .satAddS64 => .satAdd .short .signed .w64
  | .satAddU8 => .satAdd .short .unsigned .w8
  | .satAddU16 => .satAdd .short .unsigned .w16
  | .satAddU32 => .satAdd .short .unsigned .w32
  | .satAddU64 => .satAdd .short .unsigned .w64
  | .satAddQS8 => .satAdd .full .signed .w8
  | .satAddQS16 => .satAdd .full .signed .w16
  | .satAddQS32 => .satAdd .full .signed .w32
  | .satAddQS64 => .satAdd .full .signed .w64
  | .satAddQU8 => .satAdd .full .unsigned .w8
  | .satAddQU16 => .satAdd .full .unsigned .w16
  | .satAddQU32 => .satAdd .full .unsigned .w32
  | .satAddQU64 => .satAdd .full .unsigned .w64
  | .satSubS8 => .satSub .short .signed .w8
  | .satSubS16 => .satSub .short .signed .w16
  | .satSubS32 => .satSub .short .signed .w32
  | .satSubS64 => .satSub .short .signed .w64
  | .satSubU8 => .satSub .short .unsigned .w8
  | .satSubU16 => .satSub .short .unsigned .w16
  | .satSubU32 => .satSub .short .unsigned .w32
  | .satSubU64 => .satSub .short .unsigned .w64
  | .satSubQS8 => .satSub .full .signed .w8
  | .satSubQS16 => .satSub .full .signed .w16
  | .satSubQS32 => .satSub .full .signed .w32
  | .satSubQS64 => .satSub .full .signed .w64
  | .satSubQU8 => .satSub .full .unsigned .w8
  | .satSubQU16 => .satSub .full .unsigned .w16
  | .satSubQU32 => .satSub .full .unsigned .w32
  | .satSubQU64 => .satSub .full .unsigned .w64
  | .satAbsS8 => .satAbs .short .signed .w8
  | .satAbsS16 => .satAbs .short .signed .w16
  | .satAbsS32 => .satAbs .short .signed .w32
  | .satAbsS64 => .satAbs .short .signed .w64
  | .satAbsU8 => .satAbs .short .unsigned .w8
  | .satAbsU16 => .satAbs .short .unsigned .w16
  | .satAbsU32 => .satAbs .short .unsigned .w32
  | .satAbsU64 => .satAbs .short .unsigned .w64
  | .satAbsQS8 => .satAbs .full .signed .w8
  | .satAbsQS16 => .satAbs .full .signed .w16
  | .satAbsQS32 => .satAbs .full .signed .w32
  | .satAbsQS64 => .satAbs .full .signed .w64
  | .satAbsQU8 => .satAbs .full .unsigned .w8
  | .satAbsQU16 => .satAbs .full .unsigned .w16
  | .satAbsQU32 => .satAbs .full .unsigned .w32
  | .satAbsQU64 => .satAbs .full .unsigned .w64
  | .satNegS8 => .satNeg .short .signed .w8
  | .satNegS16 => .satNeg .short .signed .w16
  | .satNegS32 => .satNeg .short .signed .w32
  | .satNegS64 => .satNeg .short .signed .w64
  | .satNegU8 => .satNeg .short .unsigned .w8
  | .satNegU16 => .satNeg .short .unsigned .w16
  | .satNegU32 => .satNeg .short .unsigned .w32
  | .satNegU64 => .satNeg .short .unsigned .w64
  | .satNegQS8 => .satNeg .full .signed .w8
  | .satNegQS16 => .satNeg .full .signed .w16
  | .satNegQS32 => .satNeg .full .signed .w32
  | .satNegQS64 => .satNeg .full .signed .w64
  | .satNegQU8 => .satNeg .full .unsigned .w8
  | .satNegQU16 => .satNeg .full .unsigned .w16
  | .satNegQU32 => .satNeg .full .unsigned .w32
  | .satNegQU64 => .satNeg .full .unsigned .w64
  | .haddS8 => .hadd .short .signed .w8
  | .haddS16 => .hadd .short .signed .w16
  | .haddS32 => .hadd .short .signed .w32
  | .haddS64 => .hadd .short .signed .w64
  | .haddU8 => .hadd .short .unsigned .w8
  | .haddU16 => .hadd .short .unsigned .w16
  | .haddU32 => .hadd .short .unsigned .w32
  | .haddU64 => .hadd .short .unsigned .w64
  | .haddQS8 => .hadd .full .signed .w8
  | .haddQS16 => .hadd .full .signed .w16
  | .haddQS32 => .hadd .full .signed .w32
  | .haddQS64 => .hadd .full .signed .w64
  | .haddQU8 => .hadd .full .unsigned .w8
  | .haddQU16 => .hadd .full .unsigned .w16
  | .haddQU32 => .hadd .full .unsigned .w32
  | .haddQU64 => .hadd .full .unsigned .w64
  | .rhaddS8 => .rhadd .short .signed .w8
  | .rhaddS16 => .rhadd .short .signed .w16
  | .rhaddS32 => .rhadd .short .signed .w32
  | .rhaddS64 => .rhadd .short .signed .w64
  | .rhaddU8 => .rhadd .short .unsigned .w8
  | .rhaddU16 => .rhadd .short .unsigned .w16
  | .rhaddU32 => .rhadd .short .unsigned .w32
  | .rhaddU64 => .rhadd .short .unsigned .w64
  | .rhaddQS8 => .rhadd .full .signed .w8
  | .rhaddQS16 => .rhadd .full .signed .w16
  | .rhaddQS32 => .rhadd .full .signed .w32
  | .rhaddQS64 => .rhadd .full .signed .w64
  | .rhaddQU8 => .rhadd .full .unsigned .w8
  | .rhaddQU16 => .rhadd .full .unsigned .w16
  | .rhaddQU32 => .rhadd .full .unsigned .w32
  | .rhaddQU64 => .rhadd .full .unsigned .w64
  | .hsubS8 => .hsub .short .signed .w8
  | .hsubS16 => .hsub .short .signed .w16
  | .hsubS32 => .hsub .short .signed .w32
  | .hsubS64 => .hsub .short .signed .w64
  | .hsubU8 => .hsub .short .unsigned .w8
  | .hsubU16 => .hsub .short .unsigned .w16
  | .hsubU32 => .hsub .short .unsigned .w32
  | .hsubU64 => .hsub .short .unsigned .w64
  | .hsubQS8 => .hsub .full .signed .w8
  | .hsubQS16 => .hsub .full .signed .w16
  | .hsubQS32 => .hsub .full .signed .w32
  | .hsubQS64 => .hsub .full .signed .w64
  | .hsubQU8 => .hsub .full .unsigned .w8
  | .hsubQU16 => .hsub .full .unsigned .w16
  | .hsubQU32 => .hsub .full .unsigned .w32
  | .hsubQU64 => .hsub .full .unsigned .w64
  | .narrowS16 => .narrow .signed .w16
  | .narrowS32 => .narrow .signed .w32
  | .narrowS64 => .narrow .signed .w64
  | .narrowU16 => .narrow .unsigned .w16
  | .narrowU32 => .narrow .unsigned .w32
  | .narrowU64 => .narrow .unsigned .w64
  | .narrowSatS16 => .narrowSat .signed .w16
  | .narrowSatS32 => .narrowSat .signed .w32
  | .narrowSatS64 => .narrowSat .signed .w64
  | .narrowSatU16 => .narrowSat .unsigned .w16
  | .narrowSatU32 => .narrowSat .unsigned .w32
  | .narrowSatU64 => .narrowSat .unsigned .w64
  | .narrowSatunS16 => .narrowSatun .w16
  | .narrowSatunS32 => .narrowSatun .w32
  | .narrowSatunS64 => .narrowSatun .w64
  | .widenS8 => .widen .signed .w8
  | .widenS16 => .widen .signed .w16
  | .widenS32 => .widen .signed .w32
  | .widenU8 => .widen .unsigned .w8
  | .widenU16 => .widen .unsigned .w16
  | .widenU32 => .widen .unsigned .w32
  | .extractLaneS8 => .extractLane .short .signed .w8
  | .extractLaneS16 => .extractLane .short .signed .w16
  | .extractLaneS32 => .extractLane .short .signed .w32
  | .extractLaneS64 => .extractLane .short .signed .w64
  | .extractLaneU8 => .extractLane .short .unsigned .w8
  | .extractLaneU16 => .extractLane .short .unsigned .w16
  | .extractLaneU32 => .extractLane .short .unsigned .w32
  | .extractLaneU64 => .extractLane .short .unsigned .w64
  | .extractLaneQS8 => .extractLane .full .signed .w8
  | .extractLaneQS16 => .extractLane .full .signed .w16
  | .extractLaneQS32 => .extractLane .full .signed .w32
  | .extractLaneQS64 => .extractLane .full .signed .w64
  | .extractLaneQU8 => .extractLane .full .unsigned .w8
  | .extractLaneQU16 => .extractLane .full .unsigned .w16
  | .extractLaneQU32 => .extractLane .full .unsigned .w32
  | .extractLaneQU64 => .extractLane .full .unsigned .w64
  | .insertLaneS8 => .insertLane .short .signed .w8
  | .insertLaneS16 => .insertLane .short .signed .w16
  | .insertLaneS32 => .insertLane .short .signed .w32
  | .insertLaneS64 => .insertLane .short .signed .w64
  | .insertLaneU8 => .insertLane .short .unsigned .w8
  | .insertLaneU16 => .insertLane .short .unsigned .w16
  | .insertLaneU32 => .insertLane .short .unsigned .w32
  | .insertLaneU64 => .insertLane .short .unsigned .w64
  | .insertLaneQS8 => .insertLane .full .signed .w8
  | .insertLaneQS16 => .insertLane .full .signed .w16
  | .insertLaneQS32 => .insertLane .full .signed .w32
  | .insertLaneQS64 => .insertLane .full .signed .w64
  | .insertLaneQU8 => .insertLane .full .unsigned .w8
  | .insertLaneQU16 => .insertLane .full .unsigned .w16
  | .insertLaneQU32 => .insertLane .full .unsigned .w32
  | .insertLaneQU64 => .insertLane .full .unsigned .w64
  | .tbl1S8 => .tbl .one .short .signed
  | .tbl2S8 => .tbl .two .short .signed
  | .tbl3S8 => .tbl .three .short .signed
  | .tbl4S8 => .tbl .four .short .signed
  | .tbl1U8 => .tbl .one .short .unsigned
  | .tbl2U8 => .tbl .two .short .unsigned
  | .tbl3U8 => .tbl .three .short .unsigned
  | .tbl4U8 => .tbl .four .short .unsigned
  | .tbl1QS8 => .tbl .one .full .signed
  | .tbl2QS8 => .tbl .two .full .signed
  | .tbl3QS8 => .tbl .three .full .signed
  | .tbl4QS8 => .tbl .four .full .signed
  | .tbl1QU8 => .tbl .one .full .unsigned
  | .tbl2QU8 => .tbl .two .full .unsigned
  | .tbl3QU8 => .tbl .three .full .unsigned
  | .tbl4QU8 => .tbl .four .full .unsigned
  | .tbx1S8 => .tbx .one .short .signed
  | .tbx2S8 => .tbx .two .short .signed
  | .tbx3S8 => .tbx .three .short .signed
  | .tbx4S8 => .tbx .four .short .signed
  | .tbx1U8 => .tbx .one .short .unsigned
  | .tbx2U8 => .tbx .two .short .unsigned
  | .tbx3U8 => .tbx .three .short .unsigned
  | .tbx4U8 => .tbx .four .short .unsigned
  | .tbx1QS8 => .tbx .one .full .signed
  | .tbx2QS8 => .tbx .two .full .signed
  | .tbx3QS8 => .tbx .three .full .signed
  | .tbx4QS8 => .tbx .four .full .signed
  | .tbx1QU8 => .tbx .one .full .unsigned
  | .tbx2QU8 => .tbx .two .full .unsigned
  | .tbx3QU8 => .tbx .three .full .unsigned
  | .tbx4QU8 => .tbx .four .full .unsigned
  | .qdS8 => .qd .short .w8
  | .qdS16 => .qd .short .w16
  | .qdS32 => .qd .short .w32
  | .qdS64 => .qd .short .w64
  | .qdQS8 => .qd .full .w8
  | .qdQS16 => .qd .full .w16
  | .qdQS32 => .qd .full .w32
  | .qdQS64 => .qd .full .w64

/-- The `q` bit of a register size (30_encoding.md rule R58). -/
def RegSize.code : RegSize → Nat
  | .short => 0
  | .full => 1

/-- The `u` bit of a type letter (30_encoding.md rule R59). -/
def Sign.code : Sign → Nat
  | .signed => 0
  | .unsigned => 1

/-- The `sz` field of a lane width (30_encoding.md rule R60). -/
def Width.code : Width → Nat
  | .w8 => 0
  | .w16 => 1
  | .w32 => 2
  | .w64 => 3

/-- The `nr` field of a table count (30_encoding.md rule R61). -/
def TableCount.code : TableCount → Nat
  | .one => 0
  | .two => 1
  | .three => 2
  | .four => 3

/-- A command word with the given leading digits (the unit and function codes in bits 15..8), register size, type letter and
lane width, and `nr = 0`: `base | q << 7 | u << 6 | sz << 4` (30_encoding.md rule R55). -/
def commandWord (base : Nat) (q : RegSize) (t : Sign) (w : Width) : Command :=
  BitVec.ofNat 16 (base ||| q.code <<< 7 ||| t.code <<< 6 ||| w.code <<< 4)

/-- The command word of a table lookup: `base | q << 7 | u << 6 | (N - 1) << 2` (30_encoding.md rules R55 and R61). -/
def tableWord (base : Nat) (n : TableCount) (q : RegSize) (t : Sign) : Command :=
  BitVec.ofNat 16 (base ||| q.code <<< 7 ||| t.code <<< 6 ||| n.code <<< 2)

/-- The command word of a form, with the unit and function codes of 30_encoding.md rule R56. -/
def Form.word : Form → Command
  | .satAdd q t w => commandWord 0x1000 q t w
  | .satSub q t w => commandWord 0x2000 q t w
  | .satAbs q t w => commandWord 0x3000 q t w
  | .satNeg q t w => commandWord 0x3100 q t w
  | .hadd q t w => commandWord 0x4000 q t w
  | .rhadd q t w => commandWord 0x4100 q t w
  | .hsub q t w => commandWord 0x5000 q t w
  | .narrow t w => commandWord 0x6000 .short t w
  | .narrowSat t w => commandWord 0x6100 .short t w
  | .narrowSatun w => commandWord 0x6200 .short .signed w
  | .widen t w => commandWord 0x7000 .short t w
  | .extractLane q t w => commandWord 0x8000 q t w
  | .insertLane q t w => commandWord 0x9000 q t w
  | .tbl n q t => tableWord 0xA000 n q t
  | .tbx n q t => tableWord 0xA100 n q t
  | .qd q w => commandWord 0xB000 q .signed w

/-- Whether the command's form is well formed. -/
def Instr.wf (i : Instr) : Bool :=
  i.form.wf

/-- The command word of a command (30_encoding.md rule R72). -/
def encode (i : Instr) : Command :=
  i.form.word

/-! ## Mnemonics and operand order -/

/-- A `q` in a mnemonic exactly when the register is full (30_encoding.md rule R67). -/
def RegSize.letter : RegSize → String
  | .short => ""
  | .full => "q"

/-- The type letter (30_encoding.md rule R67). -/
def Sign.letter : Sign → String
  | .signed => "s"
  | .unsigned => "u"

/-- The lane width in decimal (30_encoding.md rule R67). -/
def Width.letters : Width → String
  | .w8 => "8"
  | .w16 => "16"
  | .w32 => "32"
  | .w64 => "64"

/-- The digit of `tbl` and `tbx` (30_encoding.md rule R67). -/
def TableCount.digit : TableCount → String
  | .one => "1"
  | .two => "2"
  | .three => "3"
  | .four => "4"

/-- `operation [ "q" ] "_" type width` (30_encoding.md rule R67). -/
def spell (op : String) (q : RegSize) (t : Sign) (w : Width) : String :=
  op ++ q.letter ++ "_" ++ t.letter ++ w.letters

/-- The mnemonic of a form (30_encoding.md rule R67). -/
def Form.mnemonic : Form → String
  | .satAdd q t w => spell "sat_add" q t w
  | .satSub q t w => spell "sat_sub" q t w
  | .satAbs q t w => spell "sat_abs" q t w
  | .satNeg q t w => spell "sat_neg" q t w
  | .hadd q t w => spell "hadd" q t w
  | .rhadd q t w => spell "rhadd" q t w
  | .hsub q t w => spell "hsub" q t w
  | .narrow t w => spell "narrow" .short t w
  | .narrowSat t w => spell "narrow_sat" .short t w
  | .narrowSatun w => spell "narrow_satun" .short .signed w
  | .widen t w => spell "widen" .short t w
  | .extractLane q t w => spell "extract_lane" q t w
  | .insertLane q t w => spell "insert_lane" q t w
  | .tbl n q t => spell ("tbl" ++ n.digit) q t .w8
  | .tbx n q t => spell ("tbx" ++ n.digit) q t .w8
  | .qd q w => spell "qd" q .signed w

/-- The mnemonic of a command, its only spelling (30_encoding.md rule R71). -/
def Instr.mnemonic (i : Instr) : String :=
  i.form.mnemonic

/-- The data ports of the block (10_state.md rules R26 and R27). -/
inductive Port where
  | a
  | b
  | t0
  | t1
  | t2
  | t3
  | s
  | idx
  | r
  | x
deriving DecidableEq, Repr

/-- The table ports of a lookup over `n` registers, in order (30_encoding.md rule R61). -/
def TableCount.ports : TableCount → List Port
  | .one => [.t0]
  | .two => [.t0, .t1]
  | .three => [.t0, .t1, .t2]
  | .four => [.t0, .t1, .t2, .t3]

/-- The operand ports a command reads, in the order of its assembler line (30_encoding.md rules R65 and R68). -/
def Form.operands : Form → List Port
  | .satAdd .. => [.a, .b]
  | .satSub .. => [.a, .b]
  | .satAbs .. => [.a]
  | .satNeg .. => [.a]
  | .hadd .. => [.a, .b]
  | .rhadd .. => [.a, .b]
  | .hsub .. => [.a, .b]
  | .narrow .. => [.a]
  | .narrowSat .. => [.a]
  | .narrowSatun .. => [.a]
  | .widen .. => [.a]
  | .extractLane .. => [.a, .idx]
  | .insertLane .. => [.a, .s, .idx]
  | .tbl n _ _ => n.ports ++ [.a]
  | .tbx n _ _ => n.ports ++ [.a, .b]
  | .qd .. => [.a]

/-- The result port a command writes (30_encoding.md rules R65 and R68). -/
def Form.resultPort : Form → Port
  | .extractLane .. => .x
  | _ => .r

end Sys2Proof
end

