-- ==== Sys2Proof/Machine/State.lean ====
section
/-! DEFINITION. The state of the machine. The block holds no mutable state (10_state.md rule R20): State is the record of the
ports of one transaction, the inputs the host drives and the outputs the block drives (assumption log entries 1 and 2). -/

namespace Sys2Proof.Machine

/-- The input ports (10_state.md rule R26). The host drives them; no command writes one. -/
structure Inputs where
  /-- `CMD`, the command word. -/
  cmd : Command
  /-- `A`, the first vector operand. -/
  a : Vec
  /-- `B`, the second vector operand. -/
  b : Vec
  /-- `T0`, the first table register. -/
  t0 : Vec
  /-- `T1`, the second table register. -/
  t1 : Vec
  /-- `T2`, the third table register. -/
  t2 : Vec
  /-- `T3`, the fourth table register. -/
  t3 : Vec
  /-- `S`, the scalar operand. -/
  s : Scalar
  /-- `IDX`, the lane index. -/
  idx : LaneIndex
deriving DecidableEq, Repr

/-- The output ports (10_state.md rule R27): what the latest transaction drove. -/
structure Outputs where
  /-- `R`, the vector result. -/
  r : Vec
  /-- `X`, the scalar result. -/
  x : Scalar
deriving DecidableEq, Repr

/-- The ports of the transaction in progress: its inputs, and the outputs of the latest transaction carried out. -/
structure State where
  inputs : Inputs
  outputs : Outputs
deriving DecidableEq, Repr

/-- The block raises no exception and has no error output (60_exceptions.md rule R160), so no step ends in a fault: the type
has no constructor. Safe. -/
inductive Fault where
deriving DecidableEq, Repr

/-- Why the machine has no step for a transaction (60_exceptions.md rule R162). -/
inductive Refusal where
  /-- Raised by `exec` for an instruction that has no meaning in the model; every instruction has one, so nothing raises it.
  Safe. -/
  | notModelled (mnemonic : String)
  /-- Raised by `step` for a command word that is none of the 205 legal ones (30_encoding.md rule R64; 60_exceptions.md rule
  R162 b). Safe: nothing can be proved of what follows. -/
  | reservedCommand (word : Command)
  /-- Raised by the lane access commands for an index that is not below the lane count (43_lane_access.md rule R132;
  60_exceptions.md rule R162 a). Safe: nothing can be proved of what follows. -/
  | laneIndexOutOfRange (idx : LaneIndex) (lanes : Nat)
deriving DecidableEq, Repr

/-- The machine before its first transaction. The spec has no reset and gives no port a value (10_state.md rule R35;
70_reset_and_hazards.md rule R180); DESIGN CHOICE: every port is zero (assumption log entry 2). `CMD = 0x0000` is a reserved
word (30_encoding.md rule R64), so no program is placed. -/
def State.reset : State where
  inputs := { cmd := 0, a := 0, b := 0, t0 := 0, t1 := 0, t2 := 0, t3 := 0, s := 0, idx := 0 }
  outputs := { r := 0, x := 0 }

end Sys2Proof.Machine
end

