-- ==== Sys2Proof/Machine/Ops.lean ====
section
/-! DEFINITION. The pseudocode primitives of 00_scope.md rule R18, the lanes of a register value (rules R9 and R14), and the
operations every meaning is written with: driving a result port, selecting a lane under its precondition. The block takes no
exception (60_exceptions.md rules R160 and R166), so no operation takes one or returns from one. -/

namespace Sys2Proof

/-- `REGBITS(q)` (00_scope.md rule R9). -/
def RegSize.bits : RegSize → Nat
  | .short => Config.shortBits
  | .full => Config.fullBits

/-- The lane width `W` in bits (00_scope.md rule R9). -/
def Width.bits : Width → Nat
  | .w8 => 8
  | .w16 => 16
  | .w32 => 32
  | .w64 => 64

/-- The number of table registers `N` (30_encoding.md rule R61). -/
def TableCount.count : TableCount → Nat
  | .one => 1
  | .two => 2
  | .three => 3
  | .four => 4

end Sys2Proof

namespace Sys2Proof.Machine

/-! ## Primitives (00_scope.md rule R18) -/

/-- `int_t(v)`: `sint(v)` for the type letter `s`, `uint(v)` for `u`. -/
def intOf (t : Sign) {w : Nat} (v : BitVec w) : Int :=
  match t with
  | .signed => v.toInt
  | .unsigned => v.toNat

/-- `trunc_N(i)`: the N-bit vector whose `uint` is `i mod 2^N`. -/
def truncTo (n : Nat) (i : Int) : BitVec n :=
  BitVec.ofInt n i

/-- `clamp(i, lo, hi)`. -/
def clamp (i lo hi : Int) : Int :=
  if i < lo then lo else if i > hi then hi else i

/-- `floor(i / 2)`: the greatest integer not above `i / 2`. Division of an `Int` by a positive number rounds toward minus
infinity. -/
def floorHalf (i : Int) : Int :=
  i / 2

/-- `MIN_t_W`: `SMIN_W` or 0. -/
def laneMin (t : Sign) (w : Nat) : Int :=
  match t with
  | .signed => -(2 ^ (w - 1))
  | .unsigned => 0

/-- `MAX_t_W`: `SMAX_W` or `UMAX_W`. -/
def laneMax (t : Sign) (w : Nat) : Int :=
  match t with
  | .signed => 2 ^ (w - 1) - 1
  | .unsigned => 2 ^ w - 1

/-- `trunc_W(clamp(i, MIN_t_W, MAX_t_W))`: an exact result brought into the range of the lane type. -/
def saturate (t : Sign) (w : Nat) (i : Int) : BitVec w :=
  truncTo w (clamp i (laneMin t w) (laneMax t w))

/-! ## Lanes (00_scope.md rules R9 and R14) -/

/-- `LANES(q, W)`. -/
def laneCount (q : RegSize) (w : Nat) : Nat :=
  q.bits / w

/-- `V{W}[k] = V[(k+1)*W - 1 : k*W]`. -/
def lane (w : Nat) (v : Vec) (k : Nat) : BitVec w :=
  v.extractLsb' (k * w) w

/-- The register value whose lane `k` of width `w` is `f k` for every `k` below `n`, and whose bits above those lanes are
zero (the `R <- zext_128(r)` of every rule; 10_state.md rule R28). -/
def pack (w : Nat) : Nat → (Nat → BitVec w) → Vec
  | 0, _ => 0
  | n + 1, f => pack w n f ||| ((f n).setWidth 128 <<< (n * w))

/-! ## Results -/

/-- `R <- v`, with `X` driven to zero (10_state.md rule R29); the inputs are the host's and stay. -/
def State.driveR (s : State) (v : Vec) : Host.Outcome State Fault Refusal :=
  .next { s with outputs := { r := v, x := 0 } }

/-- `X <- v`, with `R` driven to zero (10_state.md rule R29); the inputs are the host's and stay. -/
def State.driveX (s : State) (v : Scalar) : Host.Outcome State Fault Refusal :=
  .next { s with outputs := { r := 0, x := v } }

/-- `require uint(IDX) < n`, then the rest with the index; otherwise the transaction is not well formed and has no step
(43_lane_access.md rule R132). All 8 bits of `IDX` count. -/
def withLane (q : RegSize) (w : Nat) (s : State) (rest : Nat → Host.Outcome State Fault Refusal) :
    Host.Outcome State Fault Refusal :=
  if s.inputs.idx.toNat < laneCount q w then rest s.inputs.idx.toNat
  else .refused (.laneIndexOutOfRange s.inputs.idx (laneCount q w))

/-- The host presents a transaction: it drives every input port (00_scope.md rule R12). Not an act of the block. -/
def State.present (s : State) (p : Inputs) : State :=
  { s with inputs := p }

end Sys2Proof.Machine
end

