-- ==== Sys2Proof/Machine/Operands.lean ====
section
/-! DEFINITION. The operand forms of 30_encoding.md rule R65: lanes of one or two vector operands, table bytes, and what part
of the input ports each form reads. -/

namespace Sys2Proof.Machine

/-- Every lane of `a`, `n` lanes of `w`, through `f` to a lane of `w'` at the same position. -/
def mapLanes (n w w' : Nat) (f : BitVec w → BitVec w') (a : Vec) : Vec :=
  pack w' n fun k => f (lane w a k)

/-- The lanes of `a` and `b` at each position, `n` lanes of `w`, through `f`. -/
def zipLanes (n w : Nat) (f : BitVec w → BitVec w → BitVec w) (a b : Vec) : Vec :=
  pack w n fun k => f (lane w a k) (lane w b k)

/-- An operation of one vector operand, register size `q`, lanes of `w` in and out (30_encoding.md rule R65). -/
def unaryOp (q : RegSize) (w : Width) (f : BitVec w.bits → BitVec w.bits) (s : State) : Host.Outcome State Fault Refusal :=
  s.driveR (mapLanes (laneCount q w.bits) w.bits w.bits f s.inputs.a)

/-- An operation of two vector operands, register size `q`, lanes of `w` (30_encoding.md rule R65). -/
def binaryOp (q : RegSize) (w : Width) (f : BitVec w.bits → BitVec w.bits → BitVec w.bits) (s : State) :
    Host.Outcome State Fault Refusal :=
  s.driveR (zipLanes (laneCount q w.bits) w.bits f s.inputs.a s.inputs.b)

/-- A narrowing: full register, `128/W` lanes of `W`, to a short register of as many lanes of `W/2` (42_widen_narrow.md rule
R116). -/
def narrowingOp (w : Width) (f : BitVec w.bits → BitVec (w.bits / 2)) (s : State) : Host.Outcome State Fault Refusal :=
  s.driveR (mapLanes (laneCount .full w.bits) w.bits (w.bits / 2) f s.inputs.a)

/-- A widening: short register, `64/W` lanes of `W`, to a full register of as many lanes of `2W` (42_widen_narrow.md rule
R116). -/
def wideningOp (w : Width) (f : BitVec w.bits → BitVec (2 * w.bits)) (s : State) : Host.Outcome State Fault Refusal :=
  s.driveR (mapLanes (laneCount .short w.bits) w.bits (2 * w.bits) f s.inputs.a)

/-- Table register `Tj` (10_state.md rule R26). -/
def Inputs.table (p : Inputs) : Nat → Vec
  | 0 => p.t0
  | 1 => p.t1
  | 2 => p.t2
  | _ => p.t3

/-- `Bq = REGBITS(q)/8`, the bytes of a register (44_table_lookup.md rule R141). -/
def byteCount (q : RegSize) : Nat :=
  q.bits / 8

/-- `T[j] = T[j div Bq]{8}[j mod Bq]`, byte `j` of the table (44_table_lookup.md rule R141). -/
def Inputs.tableByte (p : Inputs) (q : RegSize) (j : Nat) : BitVec 8 :=
  lane 8 (p.table (j / byteCount q)) (j % byteCount q)

/-- A register value cut to size `q`: its low `REGBITS(q)` bits, zero above (10_state.md rule R28). -/
def cut (q : RegSize) (v : Vec) : Vec :=
  (v.setWidth q.bits).setWidth 128

/-- Table register `Tj` as a lookup over `n` registers of size `q` reads it; zero where it does not read it. -/
def cutTable (n : TableCount) (q : RegSize) (j : Nat) (v : Vec) : Vec :=
  if j < n.count then cut q v else 0

/-- Port values of which nothing is read. -/
def Inputs.unread : Inputs where
  cmd := 0
  a := 0
  b := 0
  t0 := 0
  t1 := 0
  t2 := 0
  t3 := 0
  s := 0
  idx := 0

/-- The part of the input ports a form reads, at the size it reads it, every other bit zero (the table of 30_encoding.md rule
R65). -/
def formRead (f : Form) (p : Inputs) : Inputs :=
  match f with
  | .satAdd q _ _ => { Inputs.unread with a := cut q p.a, b := cut q p.b }
  | .satSub q _ _ => { Inputs.unread with a := cut q p.a, b := cut q p.b }
  | .satAbs q _ _ => { Inputs.unread with a := cut q p.a }
  | .satNeg q _ _ => { Inputs.unread with a := cut q p.a }
  | .hadd q _ _ => { Inputs.unread with a := cut q p.a, b := cut q p.b }
  | .rhadd q _ _ => { Inputs.unread with a := cut q p.a, b := cut q p.b }
  | .hsub q _ _ => { Inputs.unread with a := cut q p.a, b := cut q p.b }
  | .narrow _ _ => { Inputs.unread with a := p.a }
  | .narrowSat _ _ => { Inputs.unread with a := p.a }
  | .narrowSatun _ => { Inputs.unread with a := p.a }
  | .widen _ _ => { Inputs.unread with a := cut .short p.a }
  | .extractLane q _ _ => { Inputs.unread with a := cut q p.a, idx := p.idx }
  | .insertLane q _ w => { Inputs.unread with a := cut q p.a, s := (p.s.setWidth w.bits).setWidth 64, idx := p.idx }
  | .tbl n q _ =>
    { Inputs.unread with
      a := cut q p.a
      t0 := cutTable n q 0 p.t0
      t1 := cutTable n q 1 p.t1
      t2 := cutTable n q 2 p.t2
      t3 := cutTable n q 3 p.t3 }
  | .tbx n q _ =>
    { Inputs.unread with
      a := cut q p.a
      b := cut q p.b
      t0 := cutTable n q 0 p.t0
      t1 := cutTable n q 1 p.t1
      t2 := cutTable n q 2 p.t2
      t3 := cutTable n q 3 p.t3 }
  | .qd q _ => { Inputs.unread with a := cut q p.a }

/-- How lanes are laid out in a vector operand and in the vector result: their count, their width in the operands and their
width in the result. -/
structure Layout where
  lanes : Nat
  operandWidth : Nat
  resultWidth : Nat
deriving DecidableEq, Repr

/-- `n = LANES(q, W)` lanes of `W` in operands and result alike. -/
def Layout.same (q : RegSize) (w : Width) : Layout where
  lanes := laneCount q w.bits
  operandWidth := w.bits
  resultWidth := w.bits

/-- The lane layout of a form with a vector result, none for `extract_lane` (30_encoding.md rule R65, last column). It is a
function of the form alone (10_state.md rule R24). -/
def formLayout : Form → Option Layout
  | .satAdd q _ w => some (Layout.same q w)
  | .satSub q _ w => some (Layout.same q w)
  | .satAbs q _ w => some (Layout.same q w)
  | .satNeg q _ w => some (Layout.same q w)
  | .hadd q _ w => some (Layout.same q w)
  | .rhadd q _ w => some (Layout.same q w)
  | .hsub q _ w => some (Layout.same q w)
  | .narrow _ w => some { lanes := laneCount .full w.bits, operandWidth := w.bits, resultWidth := w.bits / 2 }
  | .narrowSat _ w => some { lanes := laneCount .full w.bits, operandWidth := w.bits, resultWidth := w.bits / 2 }
  | .narrowSatun w => some { lanes := laneCount .full w.bits, operandWidth := w.bits, resultWidth := w.bits / 2 }
  | .widen _ w => some { lanes := laneCount .short w.bits, operandWidth := w.bits, resultWidth := 2 * w.bits }
  | .extractLane _ _ _ => none
  | .insertLane q _ w => some (Layout.same q w)
  | .tbl _ q _ => some (Layout.same q .w8)
  | .tbx _ q _ => some (Layout.same q .w8)
  | .qd q w => some (Layout.same q w)

/-- The bound a form puts on the lane index, none where it does not read it (43_lane_access.md rule R132). -/
def formLaneBound : Form → Option Nat
  | .extractLane q _ w => some (laneCount q w.bits)
  | .insertLane q _ w => some (laneCount q w.bits)
  | _ => none

end Sys2Proof.Machine
end

