-- ==== Sys2Proof/Machine/Convert.lean ====
section
/-! DEFINITION. Widening and narrowing (42_widen_narrow.md): the law of each operation on one lane, then the 21 commands. The
width in a command's name is that of the operand lanes (30_encoding.md rule R60). -/

namespace Sys2Proof.Machine

/-- `sext_N(v)` or `zext_N(v)` by the type letter (00_scope.md rule R18). -/
def extend (t : Sign) (n : Nat) {w : Nat} (a : BitVec w) : BitVec n :=
  truncTo n (intOf t a)

/-- `narrow` on one lane: its low `h` bits (42_widen_narrow.md rule R119). -/
def narrow (h : Nat) {w : Nat} (a : BitVec w) : BitVec h :=
  a.extractLsb' 0 h

/-- `narrow_sat` on one lane, to `h` bits of the same type (42_widen_narrow.md rules R120 and R121). -/
def narrowSat (t : Sign) (h : Nat) {w : Nat} (a : BitVec w) : BitVec h :=
  saturate t h (intOf t a)

/-- `narrow_satun` on one lane, from a signed lane to an unsigned one of `h` bits (42_widen_narrow.md rule R122). -/
def narrowSatun (h : Nat) {w : Nat} (a : BitVec w) : BitVec h :=
  saturate .unsigned h (intOf .signed a)

/-- `narrow_s16` (42_widen_narrow.md rule R119). -/
def execNarrowS16 (s : State) : Host.Outcome State Fault Refusal :=
  narrowingOp .w16 (narrow 8) s

/-- `narrow_s32` (42_widen_narrow.md rule R119). -/
def execNarrowS32 (s : State) : Host.Outcome State Fault Refusal :=
  narrowingOp .w32 (narrow 16) s

/-- `narrow_s64` (42_widen_narrow.md rule R119). -/
def execNarrowS64 (s : State) : Host.Outcome State Fault Refusal :=
  narrowingOp .w64 (narrow 32) s

/-- `narrow_u16` (42_widen_narrow.md rule R119). -/
def execNarrowU16 (s : State) : Host.Outcome State Fault Refusal :=
  narrowingOp .w16 (narrow 8) s

/-- `narrow_u32` (42_widen_narrow.md rule R119). -/
def execNarrowU32 (s : State) : Host.Outcome State Fault Refusal :=
  narrowingOp .w32 (narrow 16) s

/-- `narrow_u64` (42_widen_narrow.md rule R119). -/
def execNarrowU64 (s : State) : Host.Outcome State Fault Refusal :=
  narrowingOp .w64 (narrow 32) s

/-- `narrow_sat_s16` (42_widen_narrow.md rule R120). -/
def execNarrowSatS16 (s : State) : Host.Outcome State Fault Refusal :=
  narrowingOp .w16 (narrowSat .signed 8) s

/-- `narrow_sat_s32` (42_widen_narrow.md rule R120). -/
def execNarrowSatS32 (s : State) : Host.Outcome State Fault Refusal :=
  narrowingOp .w32 (narrowSat .signed 16) s

/-- `narrow_sat_s64` (42_widen_narrow.md rule R120). -/
def execNarrowSatS64 (s : State) : Host.Outcome State Fault Refusal :=
  narrowingOp .w64 (narrowSat .signed 32) s

/-- `narrow_sat_u16` (42_widen_narrow.md rule R121). -/
def execNarrowSatU16 (s : State) : Host.Outcome State Fault Refusal :=
  narrowingOp .w16 (narrowSat .unsigned 8) s

/-- `narrow_sat_u32` (42_widen_narrow.md rule R121). -/
def execNarrowSatU32 (s : State) : Host.Outcome State Fault Refusal :=
  narrowingOp .w32 (narrowSat .unsigned 16) s

/-- `narrow_sat_u64` (42_widen_narrow.md rule R121). -/
def execNarrowSatU64 (s : State) : Host.Outcome State Fault Refusal :=
  narrowingOp .w64 (narrowSat .unsigned 32) s

/-- `narrow_satun_s16` (42_widen_narrow.md rule R122). -/
def execNarrowSatunS16 (s : State) : Host.Outcome State Fault Refusal :=
  narrowingOp .w16 (narrowSatun 8) s

/-- `narrow_satun_s32` (42_widen_narrow.md rule R122). -/
def execNarrowSatunS32 (s : State) : Host.Outcome State Fault Refusal :=
  narrowingOp .w32 (narrowSatun 16) s

/-- `narrow_satun_s64` (42_widen_narrow.md rule R122). -/
def execNarrowSatunS64 (s : State) : Host.Outcome State Fault Refusal :=
  narrowingOp .w64 (narrowSatun 32) s

/-- `widen_s8` (42_widen_narrow.md rule R117). -/
def execWidenS8 (s : State) : Host.Outcome State Fault Refusal :=
  wideningOp .w8 (extend .signed 16) s

/-- `widen_s16` (42_widen_narrow.md rule R117). -/
def execWidenS16 (s : State) : Host.Outcome State Fault Refusal :=
  wideningOp .w16 (extend .signed 32) s

/-- `widen_s32` (42_widen_narrow.md rule R117). -/
def execWidenS32 (s : State) : Host.Outcome State Fault Refusal :=
  wideningOp .w32 (extend .signed 64) s

/-- `widen_u8` (42_widen_narrow.md rule R118). -/
def execWidenU8 (s : State) : Host.Outcome State Fault Refusal :=
  wideningOp .w8 (extend .unsigned 16) s

/-- `widen_u16` (42_widen_narrow.md rule R118). -/
def execWidenU16 (s : State) : Host.Outcome State Fault Refusal :=
  wideningOp .w16 (extend .unsigned 32) s

/-- `widen_u32` (42_widen_narrow.md rule R118). -/
def execWidenU32 (s : State) : Host.Outcome State Fault Refusal :=
  wideningOp .w32 (extend .unsigned 64) s

end Sys2Proof.Machine
end

