-- ==== Sys2Proof/Machine/Doubling.lean ====
section
/-! DEFINITION. The doubling-saturate primitive (45_doubling_saturate.md): its law on one lane, then the 8 commands. -/

namespace Sys2Proof.Machine

/-- `qd` on one signed lane (45_doubling_saturate.md rule R150). -/
def qd {w : Nat} (a : BitVec w) : BitVec w :=
  saturate .signed w (2 * intOf .signed a)

/-- `qd_s8` (45_doubling_saturate.md rule R152). -/
def execQdS8 (s : State) : Host.Outcome State Fault Refusal :=
  unaryOp .short .w8 qd s

/-- `qd_s16` (45_doubling_saturate.md rule R152). -/
def execQdS16 (s : State) : Host.Outcome State Fault Refusal :=
  unaryOp .short .w16 qd s

/-- `qd_s32` (45_doubling_saturate.md rule R152). -/
def execQdS32 (s : State) : Host.Outcome State Fault Refusal :=
  unaryOp .short .w32 qd s

/-- `qd_s64` (45_doubling_saturate.md rule R152). -/
def execQdS64 (s : State) : Host.Outcome State Fault Refusal :=
  unaryOp .short .w64 qd s

/-- `qdq_s8` (45_doubling_saturate.md rule R152). -/
def execQdQS8 (s : State) : Host.Outcome State Fault Refusal :=
  unaryOp .full .w8 qd s

/-- `qdq_s16` (45_doubling_saturate.md rule R152). -/
def execQdQS16 (s : State) : Host.Outcome State Fault Refusal :=
  unaryOp .full .w16 qd s

/-- `qdq_s32` (45_doubling_saturate.md rule R152). -/
def execQdQS32 (s : State) : Host.Outcome State Fault Refusal :=
  unaryOp .full .w32 qd s

/-- `qdq_s64` (45_doubling_saturate.md rule R152). -/
def execQdQS64 (s : State) : Host.Outcome State Fault Refusal :=
  unaryOp .full .w64 qd s

end Sys2Proof.Machine
end

