-- ==== Sys2Proof/Machine/Halving.lean ====
section
/-! DEFINITION. Halving add, rounding halving add and halving subtract (41_halving.md): the law of each operation on one lane,
then the 48 commands. -/

namespace Sys2Proof.Machine

/-- `hadd` on one lane, `floor((a + b) / 2)` (41_halving.md rule R100). -/
def hadd (t : Sign) {w : Nat} (a b : BitVec w) : BitVec w :=
  truncTo w (floorHalf (intOf t a + intOf t b))

/-- `rhadd` on one lane, `floor((a + b + 1) / 2)`: a tie goes toward plus infinity (41_halving.md rules R100 and R110). -/
def rhadd (t : Sign) {w : Nat} (a b : BitVec w) : BitVec w :=
  truncTo w (floorHalf (intOf t a + intOf t b + 1))

/-- `hsub` on one lane, `floor((a - b) / 2)`; an unsigned result below zero keeps its low bits (41_halving.md rules R106 and
R107). -/
def hsub (t : Sign) {w : Nat} (a b : BitVec w) : BitVec w :=
  truncTo w (floorHalf (intOf t a - intOf t b))

/-- `hadd_s8` (41_halving.md rule R102). -/
def execHaddS8 (s : State) : Host.Outcome State Fault Refusal :=
  binaryOp .short .w8 (hadd .signed) s

/-- `hadd_s16` (41_halving.md rule R102). -/
def execHaddS16 (s : State) : Host.Outcome State Fault Refusal :=
  binaryOp .short .w16 (hadd .signed) s

/-- `hadd_s32` (41_halving.md rule R102). -/
def execHaddS32 (s : State) : Host.Outcome State Fault Refusal :=
  binaryOp .short .w32 (hadd .signed) s

/-- `hadd_s64` (41_halving.md rule R102). -/
def execHaddS64 (s : State) : Host.Outcome State Fault Refusal :=
  binaryOp .short .w64 (hadd .signed) s

/-- `hadd_u8` (41_halving.md rule R103). -/
def execHaddU8 (s : State) : Host.Outcome State Fault Refusal :=
  binaryOp .short .w8 (hadd .unsigned) s

/-- `hadd_u16` (41_halving.md rule R103). -/
def execHaddU16 (s : State) : Host.Outcome State Fault Refusal :=
  binaryOp .short .w16 (hadd .unsigned) s

/-- `hadd_u32` (41_halving.md rule R103). -/
def execHaddU32 (s : State) : Host.Outcome State Fault Refusal :=
  binaryOp .short .w32 (hadd .unsigned) s

/-- `hadd_u64` (41_halving.md rule R103). -/
def execHaddU64 (s : State) : Host.Outcome State Fault Refusal :=
  binaryOp .short .w64 (hadd .unsigned) s

/-- `haddq_s8` (41_halving.md rule R102). -/
def execHaddQS8 (s : State) : Host.Outcome State Fault Refusal :=
  binaryOp .full .w8 (hadd .signed) s

/-- `haddq_s16` (41_halving.md rule R102). -/
def execHaddQS16 (s : State) : Host.Outcome State Fault Refusal :=
  binaryOp .full .w16 (hadd .signed) s

/-- `haddq_s32` (41_halving.md rule R102). -/
def execHaddQS32 (s : State) : Host.Outcome State Fault Refusal :=
  binaryOp .full .w32 (hadd .signed) s

/-- `haddq_s64` (41_halving.md rule R102). -/
def execHaddQS64 (s : State) : Host.Outcome State Fault Refusal :=
  binaryOp .full .w64 (hadd .signed) s

/-- `haddq_u8` (41_halving.md rule R103). -/
def execHaddQU8 (s : State) : Host.Outcome State Fault Refusal :=
  binaryOp .full .w8 (hadd .unsigned) s

/-- `haddq_u16` (41_halving.md rule R103). -/
def execHaddQU16 (s : State) : Host.Outcome State Fault Refusal :=
  binaryOp .full .w16 (hadd .unsigned) s

/-- `haddq_u32` (41_halving.md rule R103). -/
def execHaddQU32 (s : State) : Host.Outcome State Fault Refusal :=
  binaryOp .full .w32 (hadd .unsigned) s

/-- `haddq_u64` (41_halving.md rule R103). -/
def execHaddQU64 (s : State) : Host.Outcome State Fault Refusal :=
  binaryOp .full .w64 (hadd .unsigned) s

/-- `rhadd_s8` (41_halving.md rule R104). -/
def execRhaddS8 (s : State) : Host.Outcome State Fault Refusal :=
  binaryOp .short .w8 (rhadd .signed) s

/-- `rhadd_s16` (41_halving.md rule R104). -/
def execRhaddS16 (s : State) : Host.Outcome State Fault Refusal :=
  binaryOp .short .w16 (rhadd .signed) s

/-- `rhadd_s32` (41_halving.md rule R104). -/
def execRhaddS32 (s : State) : Host.Outcome State Fault Refusal :=
  binaryOp .short .w32 (rhadd .signed) s

/-- `rhadd_s64` (41_halving.md rule R104). -/
def execRhaddS64 (s : State) : Host.Outcome State Fault Refusal :=
  binaryOp .short .w64 (rhadd .signed) s

/-- `rhadd_u8` (41_halving.md rule R105). -/
def execRhaddU8 (s : State) : Host.Outcome State Fault Refusal :=
  binaryOp .short .w8 (rhadd .unsigned) s

/-- `rhadd_u16` (41_halving.md rule R105). -/
def execRhaddU16 (s : State) : Host.Outcome State Fault Refusal :=
  binaryOp .short .w16 (rhadd .unsigned) s

/-- `rhadd_u32` (41_halving.md rule R105). -/
def execRhaddU32 (s : State) : Host.Outcome State Fault Refusal :=
  binaryOp .short .w32 (rhadd .unsigned) s

/-- `rhadd_u64` (41_halving.md rule R105). -/
def execRhaddU64 (s : State) : Host.Outcome State Fault Refusal :=
  binaryOp .short .w64 (rhadd .unsigned) s

/-- `rhaddq_s8` (41_halving.md rule R104). -/
def execRhaddQS8 (s : State) : Host.Outcome State Fault Refusal :=
  binaryOp .full .w8 (rhadd .signed) s

/-- `rhaddq_s16` (41_halving.md rule R104). -/
def execRhaddQS16 (s : State) : Host.Outcome State Fault Refusal :=
  binaryOp .full .w16 (rhadd .signed) s

/-- `rhaddq_s32` (41_halving.md rule R104). -/
def execRhaddQS32 (s : State) : Host.Outcome State Fault Refusal :=
  binaryOp .full .w32 (rhadd .signed) s

/-- `rhaddq_s64` (41_halving.md rule R104). -/
def execRhaddQS64 (s : State) : Host.Outcome State Fault Refusal :=
  binaryOp .full .w64 (rhadd .signed) s

/-- `rhaddq_u8` (41_halving.md rule R105). -/
def execRhaddQU8 (s : State) : Host.Outcome State Fault Refusal :=
  binaryOp .full .w8 (rhadd .unsigned) s

/-- `rhaddq_u16` (41_halving.md rule R105). -/
def execRhaddQU16 (s : State) : Host.Outcome State Fault Refusal :=
  binaryOp .full .w16 (rhadd .unsigned) s

/-- `rhaddq_u32` (41_halving.md rule R105). -/
def execRhaddQU32 (s : State) : Host.Outcome State Fault Refusal :=
  binaryOp .full .w32 (rhadd .unsigned) s

/-- `rhaddq_u64` (41_halving.md rule R105). -/
def execRhaddQU64 (s : State) : Host.Outcome State Fault Refusal :=
  binaryOp .full .w64 (rhadd .unsigned) s

/-- `hsub_s8` (41_halving.md rule R106). -/
def execHsubS8 (s : State) : Host.Outcome State Fault Refusal :=
  binaryOp .short .w8 (hsub .signed) s

/-- `hsub_s16` (41_halving.md rule R106). -/
def execHsubS16 (s : State) : Host.Outcome State Fault Refusal :=
  binaryOp .short .w16 (hsub .signed) s

/-- `hsub_s32` (41_halving.md rule R106). -/
def execHsubS32 (s : State) : Host.Outcome State Fault Refusal :=
  binaryOp .short .w32 (hsub .signed) s

/-- `hsub_s64` (41_halving.md rule R106). -/
def execHsubS64 (s : State) : Host.Outcome State Fault Refusal :=
  binaryOp .short .w64 (hsub .signed) s

/-- `hsub_u8` (41_halving.md rule R107). -/
def execHsubU8 (s : State) : Host.Outcome State Fault Refusal :=
  binaryOp .short .w8 (hsub .unsigned) s

/-- `hsub_u16` (41_halving.md rule R107). -/
def execHsubU16 (s : State) : Host.Outcome State Fault Refusal :=
  binaryOp .short .w16 (hsub .unsigned) s

/-- `hsub_u32` (41_halving.md rule R107). -/
def execHsubU32 (s : State) : Host.Outcome State Fault Refusal :=
  binaryOp .short .w32 (hsub .unsigned) s

/-- `hsub_u64` (41_halving.md rule R107). -/
def execHsubU64 (s : State) : Host.Outcome State Fault Refusal :=
  binaryOp .short .w64 (hsub .unsigned) s

/-- `hsubq_s8` (41_halving.md rule R106). -/
def execHsubQS8 (s : State) : Host.Outcome State Fault Refusal :=
  binaryOp .full .w8 (hsub .signed) s

/-- `hsubq_s16` (41_halving.md rule R106). -/
def execHsubQS16 (s : State) : Host.Outcome State Fault Refusal :=
  binaryOp .full .w16 (hsub .signed) s

/-- `hsubq_s32` (41_halving.md rule R106). -/
def execHsubQS32 (s : State) : Host.Outcome State Fault Refusal :=
  binaryOp .full .w32 (hsub .signed) s

/-- `hsubq_s64` (41_halving.md rule R106). -/
def execHsubQS64 (s : State) : Host.Outcome State Fault Refusal :=
  binaryOp .full .w64 (hsub .signed) s

/-- `hsubq_u8` (41_halving.md rule R107). -/
def execHsubQU8 (s : State) : Host.Outcome State Fault Refusal :=
  binaryOp .full .w8 (hsub .unsigned) s

/-- `hsubq_u16` (41_halving.md rule R107). -/
def execHsubQU16 (s : State) : Host.Outcome State Fault Refusal :=
  binaryOp .full .w16 (hsub .unsigned) s

/-- `hsubq_u32` (41_halving.md rule R107). -/
def execHsubQU32 (s : State) : Host.Outcome State Fault Refusal :=
  binaryOp .full .w32 (hsub .unsigned) s

/-- `hsubq_u64` (41_halving.md rule R107). -/
def execHsubQU64 (s : State) : Host.Outcome State Fault Refusal :=
  binaryOp .full .w64 (hsub .unsigned) s

end Sys2Proof.Machine
end

