-- ==== Sys2Proof/Machine/LaneAccess.lean ====
section
/-! DEFINITION. Lane extract and lane insert at a run-time index (43_lane_access.md): the two operations, then the 32
commands. -/

namespace Sys2Proof.Machine

/-- `extract_lane`: lane `IDX` of `A`, extended to 64 bits by its type, on `X` (43_lane_access.md rule R133). -/
def extractLane (q : RegSize) (t : Sign) (w : Width) (s : State) : Host.Outcome State Fault Refusal :=
  withLane q w.bits s fun k => s.driveX (extend t 64 (lane w.bits s.inputs.a k))

/-- `insert_lane`: `A` with lane `IDX` replaced by the low bits of `S`, on `R`. The type letter has no effect
(43_lane_access.md rule R135). -/
def insertLane (q : RegSize) (w : Width) (s : State) : Host.Outcome State Fault Refusal :=
  withLane q w.bits s fun i =>
    s.driveR (pack w.bits (laneCount q w.bits) fun k =>
      if k = i then s.inputs.s.extractLsb' 0 w.bits else lane w.bits s.inputs.a k)

/-- `extract_lane_s8` (43_lane_access.md rule R133). -/
def execExtractLaneS8 (s : State) : Host.Outcome State Fault Refusal :=
  extractLane .short .signed .w8 s

/-- `extract_lane_s16` (43_lane_access.md rule R133). -/
def execExtractLaneS16 (s : State) : Host.Outcome State Fault Refusal :=
  extractLane .short .signed .w16 s

/-- `extract_lane_s32` (43_lane_access.md rule R133). -/
def execExtractLaneS32 (s : State) : Host.Outcome State Fault Refusal :=
  extractLane .short .signed .w32 s

/-- `extract_lane_s64` (43_lane_access.md rule R133). -/
def execExtractLaneS64 (s : State) : Host.Outcome State Fault Refusal :=
  extractLane .short .signed .w64 s

/-- `extract_lane_u8` (43_lane_access.md rule R133). -/
def execExtractLaneU8 (s : State) : Host.Outcome State Fault Refusal :=
  extractLane .short .unsigned .w8 s

/-- `extract_lane_u16` (43_lane_access.md rule R133). -/
def execExtractLaneU16 (s : State) : Host.Outcome State Fault Refusal :=
  extractLane .short .unsigned .w16 s

/-- `extract_lane_u32` (43_lane_access.md rule R133). -/
def execExtractLaneU32 (s : State) : Host.Outcome State Fault Refusal :=
  extractLane .short .unsigned .w32 s

/-- `extract_lane_u64` (43_lane_access.md rule R133). -/
def execExtractLaneU64 (s : State) : Host.Outcome State Fault Refusal :=
  extractLane .short .unsigned .w64 s

/-- `extract_laneq_s8` (43_lane_access.md rule R133). -/
def execExtractLaneQS8 (s : State) : Host.Outcome State Fault Refusal :=
  extractLane .full .signed .w8 s

/-- `extract_laneq_s16` (43_lane_access.md rule R133). -/
def execExtractLaneQS16 (s : State) : Host.Outcome State Fault Refusal :=
  extractLane .full .signed .w16 s

/-- `extract_laneq_s32` (43_lane_access.md rule R133). -/
def execExtractLaneQS32 (s : State) : Host.Outcome State Fault Refusal :=
  extractLane .full .signed .w32 s

/-- `extract_laneq_s64` (43_lane_access.md rule R133). -/
def execExtractLaneQS64 (s : State) : Host.Outcome State Fault Refusal :=
  extractLane .full .signed .w64 s

/-- `extract_laneq_u8` (43_lane_access.md rule R133). -/
def execExtractLaneQU8 (s : State) : Host.Outcome State Fault Refusal :=
  extractLane .full .unsigned .w8 s

/-- `extract_laneq_u16` (43_lane_access.md rule R133). -/
def execExtractLaneQU16 (s : State) : Host.Outcome State Fault Refusal :=
  extractLane .full .unsigned .w16 s

/-- `extract_laneq_u32` (43_lane_access.md rule R133). -/
def execExtractLaneQU32 (s : State) : Host.Outcome State Fault Refusal :=
  extractLane .full .unsigned .w32 s

/-- `extract_laneq_u64` (43_lane_access.md rule R133). -/
def execExtractLaneQU64 (s : State) : Host.Outcome State Fault Refusal :=
  extractLane .full .unsigned .w64 s

/-- `insert_lane_s8` (43_lane_access.md rule R135). -/
def execInsertLaneS8 (s : State) : Host.Outcome State Fault Refusal :=
  insertLane .short .w8 s

/-- `insert_lane_s16` (43_lane_access.md rule R135). -/
def execInsertLaneS16 (s : State) : Host.Outcome State Fault Refusal :=
  insertLane .short .w16 s

/-- `insert_lane_s32` (43_lane_access.md rule R135). -/
def execInsertLaneS32 (s : State) : Host.Outcome State Fault Refusal :=
  insertLane .short .w32 s

/-- `insert_lane_s64` (43_lane_access.md rule R135). -/
def execInsertLaneS64 (s : State) : Host.Outcome State Fault Refusal :=
  insertLane .short .w64 s

/-- `insert_lane_u8` (43_lane_access.md rule R135). -/
def execInsertLaneU8 (s : State) : Host.Outcome State Fault Refusal :=
  insertLane .short .w8 s

/-- `insert_lane_u16` (43_lane_access.md rule R135). -/
def execInsertLaneU16 (s : State) : Host.Outcome State Fault Refusal :=
  insertLane .short .w16 s

/-- `insert_lane_u32` (43_lane_access.md rule R135). -/
def execInsertLaneU32 (s : State) : Host.Outcome State Fault Refusal :=
  insertLane .short .w32 s

/-- `insert_lane_u64` (43_lane_access.md rule R135). -/
def execInsertLaneU64 (s : State) : Host.Outcome State Fault Refusal :=
  insertLane .short .w64 s

/-- `insert_laneq_s8` (43_lane_access.md rule R135). -/
def execInsertLaneQS8 (s : State) : Host.Outcome State Fault Refusal :=
  insertLane .full .w8 s

/-- `insert_laneq_s16` (43_lane_access.md rule R135). -/
def execInsertLaneQS16 (s : State) : Host.Outcome State Fault Refusal :=
  insertLane .full .w16 s

/-- `insert_laneq_s32` (43_lane_access.md rule R135). -/
def execInsertLaneQS32 (s : State) : Host.Outcome State Fault Refusal :=
  insertLane .full .w32 s

/-- `insert_laneq_s64` (43_lane_access.md rule R135). -/
def execInsertLaneQS64 (s : State) : Host.Outcome State Fault Refusal :=
  insertLane .full .w64 s

/-- `insert_laneq_u8` (43_lane_access.md rule R135). -/
def execInsertLaneQU8 (s : State) : Host.Outcome State Fault Refusal :=
  insertLane .full .w8 s

/-- `insert_laneq_u16` (43_lane_access.md rule R135). -/
def execInsertLaneQU16 (s : State) : Host.Outcome State Fault Refusal :=
  insertLane .full .w16 s

/-- `insert_laneq_u32` (43_lane_access.md rule R135). -/
def execInsertLaneQU32 (s : State) : Host.Outcome State Fault Refusal :=
  insertLane .full .w32 s

/-- `insert_laneq_u64` (43_lane_access.md rule R135). -/
def execInsertLaneQU64 (s : State) : Host.Outcome State Fault Refusal :=
  insertLane .full .w64 s

end Sys2Proof.Machine
end

