-- ==== Sys2Proof/Machine/Saturating.lean ====
section
/-! DEFINITION. Saturating add, subtract, absolute value and negate (40_saturating.md): the law of each operation on one lane,
then the 64 commands. -/

namespace Sys2Proof.Machine

/-- `sat_add` on one lane (40_saturating.md rule R80). -/
def satAdd (t : Sign) {w : Nat} (a b : BitVec w) : BitVec w :=
  saturate t w (intOf t a + intOf t b)

/-- `sat_sub` on one lane, `a` the minuend (40_saturating.md rule R80). -/
def satSub (t : Sign) {w : Nat} (a b : BitVec w) : BitVec w :=
  saturate t w (intOf t a - intOf t b)

/-- `sat_abs` on one lane (40_saturating.md rule R80). -/
def satAbs (t : Sign) {w : Nat} (a : BitVec w) : BitVec w :=
  saturate t w (if intOf t a < 0 then -intOf t a else intOf t a)

/-- `sat_neg` on one lane (40_saturating.md rule R80). -/
def satNeg (t : Sign) {w : Nat} (a : BitVec w) : BitVec w :=
  saturate t w (-intOf t a)

/-- `sat_add_s8` (40_saturating.md rule R82). -/
def execSatAddS8 (s : State) : Host.Outcome State Fault Refusal :=
  binaryOp .short .w8 (satAdd .signed) s

/-- `sat_add_s16` (40_saturating.md rule R82). -/
def execSatAddS16 (s : State) : Host.Outcome State Fault Refusal :=
  binaryOp .short .w16 (satAdd .signed) s

/-- `sat_add_s32` (40_saturating.md rule R82). -/
def execSatAddS32 (s : State) : Host.Outcome State Fault Refusal :=
  binaryOp .short .w32 (satAdd .signed) s

/-- `sat_add_s64` (40_saturating.md rule R82). -/
def execSatAddS64 (s : State) : Host.Outcome State Fault Refusal :=
  binaryOp .short .w64 (satAdd .signed) s

/-- `sat_add_u8` (40_saturating.md rule R83). -/
def execSatAddU8 (s : State) : Host.Outcome State Fault Refusal :=
  binaryOp .short .w8 (satAdd .unsigned) s

/-- `sat_add_u16` (40_saturating.md rule R83). -/
def execSatAddU16 (s : State) : Host.Outcome State Fault Refusal :=
  binaryOp .short .w16 (satAdd .unsigned) s

/-- `sat_add_u32` (40_saturating.md rule R83). -/
def execSatAddU32 (s : State) : Host.Outcome State Fault Refusal :=
  binaryOp .short .w32 (satAdd .unsigned) s

/-- `sat_add_u64` (40_saturating.md rule R83). -/
def execSatAddU64 (s : State) : Host.Outcome State Fault Refusal :=
  binaryOp .short .w64 (satAdd .unsigned) s

/-- `sat_addq_s8` (40_saturating.md rule R82). -/
def execSatAddQS8 (s : State) : Host.Outcome State Fault Refusal :=
  binaryOp .full .w8 (satAdd .signed) s

/-- `sat_addq_s16` (40_saturating.md rule R82). -/
def execSatAddQS16 (s : State) : Host.Outcome State Fault Refusal :=
  binaryOp .full .w16 (satAdd .signed) s

/-- `sat_addq_s32` (40_saturating.md rule R82). -/
def execSatAddQS32 (s : State) : Host.Outcome State Fault Refusal :=
  binaryOp .full .w32 (satAdd .signed) s

/-- `sat_addq_s64` (40_saturating.md rule R82). -/
def execSatAddQS64 (s : State) : Host.Outcome State Fault Refusal :=
  binaryOp .full .w64 (satAdd .signed) s

/-- `sat_addq_u8` (40_saturating.md rule R83). -/
def execSatAddQU8 (s : State) : Host.Outcome State Fault Refusal :=
  binaryOp .full .w8 (satAdd .unsigned) s

/-- `sat_addq_u16` (40_saturating.md rule R83). -/
def execSatAddQU16 (s : State) : Host.Outcome State Fault Refusal :=
  binaryOp .full .w16 (satAdd .unsigned) s

/-- `sat_addq_u32` (40_saturating.md rule R83). -/
def execSatAddQU32 (s : State) : Host.Outcome State Fault Refusal :=
  binaryOp .full .w32 (satAdd .unsigned) s

/-- `sat_addq_u64` (40_saturating.md rule R83). -/
def execSatAddQU64 (s : State) : Host.Outcome State Fault Refusal :=
  binaryOp .full .w64 (satAdd .unsigned) s

/-- `sat_sub_s8` (40_saturating.md rule R84). -/
def execSatSubS8 (s : State) : Host.Outcome State Fault Refusal :=
  binaryOp .short .w8 (satSub .signed) s

/-- `sat_sub_s16` (40_saturating.md rule R84). -/
def execSatSubS16 (s : State) : Host.Outcome State Fault Refusal :=
  binaryOp .short .w16 (satSub .signed) s

/-- `sat_sub_s32` (40_saturating.md rule R84). -/
def execSatSubS32 (s : State) : Host.Outcome State Fault Refusal :=
  binaryOp .short .w32 (satSub .signed) s

/-- `sat_sub_s64` (40_saturating.md rule R84). -/
def execSatSubS64 (s : State) : Host.Outcome State Fault Refusal :=
  binaryOp .short .w64 (satSub .signed) s

/-- `sat_sub_u8` (40_saturating.md rule R85). -/
def execSatSubU8 (s : State) : Host.Outcome State Fault Refusal :=
  binaryOp .short .w8 (satSub .unsigned) s

/-- `sat_sub_u16` (40_saturating.md rule R85). -/
def execSatSubU16 (s : State) : Host.Outcome State Fault Refusal :=
  binaryOp .short .w16 (satSub .unsigned) s

/-- `sat_sub_u32` (40_saturating.md rule R85). -/
def execSatSubU32 (s : State) : Host.Outcome State Fault Refusal :=
  binaryOp .short .w32 (satSub .unsigned) s

/-- `sat_sub_u64` (40_saturating.md rule R85). -/
def execSatSubU64 (s : State) : Host.Outcome State Fault Refusal :=
  binaryOp .short .w64 (satSub .unsigned) s

/-- `sat_subq_s8` (40_saturating.md rule R84). -/
def execSatSubQS8 (s : State) : Host.Outcome State Fault Refusal :=
  binaryOp .full .w8 (satSub .signed) s

/-- `sat_subq_s16` (40_saturating.md rule R84). -/
def execSatSubQS16 (s : State) : Host.Outcome State Fault Refusal :=
  binaryOp .full .w16 (satSub .signed) s

/-- `sat_subq_s32` (40_saturating.md rule R84). -/
def execSatSubQS32 (s : State) : Host.Outcome State Fault Refusal :=
  binaryOp .full .w32 (satSub .signed) s

/-- `sat_subq_s64` (40_saturating.md rule R84). -/
def execSatSubQS64 (s : State) : Host.Outcome State Fault Refusal :=
  binaryOp .full .w64 (satSub .signed) s

/-- `sat_subq_u8` (40_saturating.md rule R85). -/
def execSatSubQU8 (s : State) : Host.Outcome State Fault Refusal :=
  binaryOp .full .w8 (satSub .unsigned) s

/-- `sat_subq_u16` (40_saturating.md rule R85). -/
def execSatSubQU16 (s : State) : Host.Outcome State Fault Refusal :=
  binaryOp .full .w16 (satSub .unsigned) s

/-- `sat_subq_u32` (40_saturating.md rule R85). -/
def execSatSubQU32 (s : State) : Host.Outcome State Fault Refusal :=
  binaryOp .full .w32 (satSub .unsigned) s

/-- `sat_subq_u64` (40_saturating.md rule R85). -/
def execSatSubQU64 (s : State) : Host.Outcome State Fault Refusal :=
  binaryOp .full .w64 (satSub .unsigned) s

/-- `sat_abs_s8` (40_saturating.md rule R86). -/
def execSatAbsS8 (s : State) : Host.Outcome State Fault Refusal :=
  unaryOp .short .w8 (satAbs .signed) s

/-- `sat_abs_s16` (40_saturating.md rule R86). -/
def execSatAbsS16 (s : State) : Host.Outcome State Fault Refusal :=
  unaryOp .short .w16 (satAbs .signed) s

/-- `sat_abs_s32` (40_saturating.md rule R86). -/
def execSatAbsS32 (s : State) : Host.Outcome State Fault Refusal :=
  unaryOp .short .w32 (satAbs .signed) s

/-- `sat_abs_s64` (40_saturating.md rule R86). -/
def execSatAbsS64 (s : State) : Host.Outcome State Fault Refusal :=
  unaryOp .short .w64 (satAbs .signed) s

/-- `sat_abs_u8` (40_saturating.md rule R87). -/
def execSatAbsU8 (s : State) : Host.Outcome State Fault Refusal :=
  unaryOp .short .w8 (satAbs .unsigned) s

/-- `sat_abs_u16` (40_saturating.md rule R87). -/
def execSatAbsU16 (s : State) : Host.Outcome State Fault Refusal :=
  unaryOp .short .w16 (satAbs .unsigned) s

/-- `sat_abs_u32` (40_saturating.md rule R87). -/
def execSatAbsU32 (s : State) : Host.Outcome State Fault Refusal :=
  unaryOp .short .w32 (satAbs .unsigned) s

/-- `sat_abs_u64` (40_saturating.md rule R87). -/
def execSatAbsU64 (s : State) : Host.Outcome State Fault Refusal :=
  unaryOp .short .w64 (satAbs .unsigned) s

/-- `sat_absq_s8` (40_saturating.md rule R86). -/
def execSatAbsQS8 (s : State) : Host.Outcome State Fault Refusal :=
  unaryOp .full .w8 (satAbs .signed) s

/-- `sat_absq_s16` (40_saturating.md rule R86). -/
def execSatAbsQS16 (s : State) : Host.Outcome State Fault Refusal :=
  unaryOp .full .w16 (satAbs .signed) s

/-- `sat_absq_s32` (40_saturating.md rule R86). -/
def execSatAbsQS32 (s : State) : Host.Outcome State Fault Refusal :=
  unaryOp .full .w32 (satAbs .signed) s

/-- `sat_absq_s64` (40_saturating.md rule R86). -/
def execSatAbsQS64 (s : State) : Host.Outcome State Fault Refusal :=
  unaryOp .full .w64 (satAbs .signed) s

/-- `sat_absq_u8` (40_saturating.md rule R87). -/
def execSatAbsQU8 (s : State) : Host.Outcome State Fault Refusal :=
  unaryOp .full .w8 (satAbs .unsigned) s

/-- `sat_absq_u16` (40_saturating.md rule R87). -/
def execSatAbsQU16 (s : State) : Host.Outcome State Fault Refusal :=
  unaryOp .full .w16 (satAbs .unsigned) s

/-- `sat_absq_u32` (40_saturating.md rule R87). -/
def execSatAbsQU32 (s : State) : Host.Outcome State Fault Refusal :=
  unaryOp .full .w32 (satAbs .unsigned) s

/-- `sat_absq_u64` (40_saturating.md rule R87). -/
def execSatAbsQU64 (s : State) : Host.Outcome State Fault Refusal :=
  unaryOp .full .w64 (satAbs .unsigned) s

/-- `sat_neg_s8` (40_saturating.md rule R88). -/
def execSatNegS8 (s : State) : Host.Outcome State Fault Refusal :=
  unaryOp .short .w8 (satNeg .signed) s

/-- `sat_neg_s16` (40_saturating.md rule R88). -/
def execSatNegS16 (s : State) : Host.Outcome State Fault Refusal :=
  unaryOp .short .w16 (satNeg .signed) s

/-- `sat_neg_s32` (40_saturating.md rule R88). -/
def execSatNegS32 (s : State) : Host.Outcome State Fault Refusal :=
  unaryOp .short .w32 (satNeg .signed) s

/-- `sat_neg_s64` (40_saturating.md rule R88). -/
def execSatNegS64 (s : State) : Host.Outcome State Fault Refusal :=
  unaryOp .short .w64 (satNeg .signed) s

/-- `sat_neg_u8` (40_saturating.md rule R89). -/
def execSatNegU8 (s : State) : Host.Outcome State Fault Refusal :=
  unaryOp .short .w8 (satNeg .unsigned) s

/-- `sat_neg_u16` (40_saturating.md rule R89). -/
def execSatNegU16 (s : State) : Host.Outcome State Fault Refusal :=
  unaryOp .short .w16 (satNeg .unsigned) s

/-- `sat_neg_u32` (40_saturating.md rule R89). -/
def execSatNegU32 (s : State) : Host.Outcome State Fault Refusal :=
  unaryOp .short .w32 (satNeg .unsigned) s

/-- `sat_neg_u64` (40_saturating.md rule R89). -/
def execSatNegU64 (s : State) : Host.Outcome State Fault Refusal :=
  unaryOp .short .w64 (satNeg .unsigned) s

/-- `sat_negq_s8` (40_saturating.md rule R88). -/
def execSatNegQS8 (s : State) : Host.Outcome State Fault Refusal :=
  unaryOp .full .w8 (satNeg .signed) s

/-- `sat_negq_s16` (40_saturating.md rule R88). -/
def execSatNegQS16 (s : State) : Host.Outcome State Fault Refusal :=
  unaryOp .full .w16 (satNeg .signed) s

/-- `sat_negq_s32` (40_saturating.md rule R88). -/
def execSatNegQS32 (s : State) : Host.Outcome State Fault Refusal :=
  unaryOp .full .w32 (satNeg .signed) s

/-- `sat_negq_s64` (40_saturating.md rule R88). -/
def execSatNegQS64 (s : State) : Host.Outcome State Fault Refusal :=
  unaryOp .full .w64 (satNeg .signed) s

/-- `sat_negq_u8` (40_saturating.md rule R89). -/
def execSatNegQU8 (s : State) : Host.Outcome State Fault Refusal :=
  unaryOp .full .w8 (satNeg .unsigned) s

/-- `sat_negq_u16` (40_saturating.md rule R89). -/
def execSatNegQU16 (s : State) : Host.Outcome State Fault Refusal :=
  unaryOp .full .w16 (satNeg .unsigned) s

/-- `sat_negq_u32` (40_saturating.md rule R89). -/
def execSatNegQU32 (s : State) : Host.Outcome State Fault Refusal :=
  unaryOp .full .w32 (satNeg .unsigned) s

/-- `sat_negq_u64` (40_saturating.md rule R89). -/
def execSatNegQU64 (s : State) : Host.Outcome State Fault Refusal :=
  unaryOp .full .w64 (satNeg .unsigned) s

end Sys2Proof.Machine
end

