-- ==== Sys2Proof/Machine/TableLookup.lean ====
section
/-! DEFINITION. Byte table lookup over one to four table registers (44_table_lookup.md): the lookup, then the 32 commands. -/

namespace Sys2Proof.Machine

/-- `(i < len(T)) ? T[i] : fallback`, with `len(T) = N * Bq` (44_table_lookup.md rules R140 and R141). -/
def lookup (n : TableCount) (q : RegSize) (p : Inputs) (i : Nat) (fallback : BitVec 8) : BitVec 8 :=
  if i < n.count * byteCount q then p.tableByte q i else fallback

/-- `tbl`: an index out of range gives zero. Index bytes are unsigned (rule R145) and the type letter has no effect
(44_table_lookup.md rule R142). -/
def tbl (n : TableCount) (q : RegSize) (s : State) : Host.Outcome State Fault Refusal :=
  s.driveR (pack 8 (byteCount q) fun k => lookup n q s.inputs (lane 8 s.inputs.a k).toNat 0)

/-- `tbx`: an index out of range gives the fallback byte at the output position (44_table_lookup.md rule R143). -/
def tbx (n : TableCount) (q : RegSize) (s : State) : Host.Outcome State Fault Refusal :=
  s.driveR (pack 8 (byteCount q) fun k => lookup n q s.inputs (lane 8 s.inputs.a k).toNat (lane 8 s.inputs.b k))

/-- `tbl1_s8` (44_table_lookup.md rule R142). -/
def execTbl1S8 (s : State) : Host.Outcome State Fault Refusal :=
  tbl .one .short s

/-- `tbl2_s8` (44_table_lookup.md rule R142). -/
def execTbl2S8 (s : State) : Host.Outcome State Fault Refusal :=
  tbl .two .short s

/-- `tbl3_s8` (44_table_lookup.md rule R142). -/
def execTbl3S8 (s : State) : Host.Outcome State Fault Refusal :=
  tbl .three .short s

/-- `tbl4_s8` (44_table_lookup.md rule R142). -/
def execTbl4S8 (s : State) : Host.Outcome State Fault Refusal :=
  tbl .four .short s

/-- `tbl1_u8` (44_table_lookup.md rule R142). -/
def execTbl1U8 (s : State) : Host.Outcome State Fault Refusal :=
  tbl .one .short s

/-- `tbl2_u8` (44_table_lookup.md rule R142). -/
def execTbl2U8 (s : State) : Host.Outcome State Fault Refusal :=
  tbl .two .short s

/-- `tbl3_u8` (44_table_lookup.md rule R142). -/
def execTbl3U8 (s : State) : Host.Outcome State Fault Refusal :=
  tbl .three .short s

/-- `tbl4_u8` (44_table_lookup.md rule R142). -/
def execTbl4U8 (s : State) : Host.Outcome State Fault Refusal :=
  tbl .four .short s

/-- `tbl1q_s8` (44_table_lookup.md rule R142). -/
def execTbl1QS8 (s : State) : Host.Outcome State Fault Refusal :=
  tbl .one .full s

/-- `tbl2q_s8` (44_table_lookup.md rule R142). -/
def execTbl2QS8 (s : State) : Host.Outcome State Fault Refusal :=
  tbl .two .full s

/-- `tbl3q_s8` (44_table_lookup.md rule R142). -/
def execTbl3QS8 (s : State) : Host.Outcome State Fault Refusal :=
  tbl .three .full s

/-- `tbl4q_s8` (44_table_lookup.md rule R142). -/
def execTbl4QS8 (s : State) : Host.Outcome State Fault Refusal :=
  tbl .four .full s

/-- `tbl1q_u8` (44_table_lookup.md rule R142). -/
def execTbl1QU8 (s : State) : Host.Outcome State Fault Refusal :=
  tbl .one .full s

/-- `tbl2q_u8` (44_table_lookup.md rule R142). -/
def execTbl2QU8 (s : State) : Host.Outcome State Fault Refusal :=
  tbl .two .full s

/-- `tbl3q_u8` (44_table_lookup.md rule R142). -/
def execTbl3QU8 (s : State) : Host.Outcome State Fault Refusal :=
  tbl .three .full s

/-- `tbl4q_u8` (44_table_lookup.md rule R142). -/
def execTbl4QU8 (s : State) : Host.Outcome State Fault Refusal :=
  tbl .four .full s

/-- `tbx1_s8` (44_table_lookup.md rule R143). -/
def execTbx1S8 (s : State) : Host.Outcome State Fault Refusal :=
  tbx .one .short s

/-- `tbx2_s8` (44_table_lookup.md rule R143). -/
def execTbx2S8 (s : State) : Host.Outcome State Fault Refusal :=
  tbx .two .short s

/-- `tbx3_s8` (44_table_lookup.md rule R143). -/
def execTbx3S8 (s : State) : Host.Outcome State Fault Refusal :=
  tbx .three .short s

/-- `tbx4_s8` (44_table_lookup.md rule R143). -/
def execTbx4S8 (s : State) : Host.Outcome State Fault Refusal :=
  tbx .four .short s

/-- `tbx1_u8` (44_table_lookup.md rule R143). -/
def execTbx1U8 (s : State) : Host.Outcome State Fault Refusal :=
  tbx .one .short s

/-- `tbx2_u8` (44_table_lookup.md rule R143). -/
def execTbx2U8 (s : State) : Host.Outcome State Fault Refusal :=
  tbx .two .short s

/-- `tbx3_u8` (44_table_lookup.md rule R143). -/
def execTbx3U8 (s : State) : Host.Outcome State Fault Refusal :=
  tbx .three .short s

/-- `tbx4_u8` (44_table_lookup.md rule R143). -/
def execTbx4U8 (s : State) : Host.Outcome State Fault Refusal :=
  tbx .four .short s

/-- `tbx1q_s8` (44_table_lookup.md rule R143). -/
def execTbx1QS8 (s : State) : Host.Outcome State Fault Refusal :=
  tbx .one .full s

/-- `tbx2q_s8` (44_table_lookup.md rule R143). -/
def execTbx2QS8 (s : State) : Host.Outcome State Fault Refusal :=
  tbx .two .full s

/-- `tbx3q_s8` (44_table_lookup.md rule R143). -/
def execTbx3QS8 (s : State) : Host.Outcome State Fault Refusal :=
  tbx .three .full s

/-- `tbx4q_s8` (44_table_lookup.md rule R143). -/
def execTbx4QS8 (s : State) : Host.Outcome State Fault Refusal :=
  tbx .four .full s

/-- `tbx1q_u8` (44_table_lookup.md rule R143). -/
def execTbx1QU8 (s : State) : Host.Outcome State Fault Refusal :=
  tbx .one .full s

/-- `tbx2q_u8` (44_table_lookup.md rule R143). -/
def execTbx2QU8 (s : State) : Host.Outcome State Fault Refusal :=
  tbx .two .full s

/-- `tbx3q_u8` (44_table_lookup.md rule R143). -/
def execTbx3QU8 (s : State) : Host.Outcome State Fault Refusal :=
  tbx .three .full s

/-- `tbx4q_u8` (44_table_lookup.md rule R143). -/
def execTbx4QU8 (s : State) : Host.Outcome State Fault Refusal :=
  tbx .four .full s

end Sys2Proof.Machine
end

