-- ==== Sys2Proof/Machine/Dispatch.lean ====
section
/-! DEFINITION. The meaning of each command, one arm per row of spec/opcode_table.json. -/

namespace Sys2Proof.Machine

def exec (i : Instr) (s : State) : Host.Outcome State Fault Refusal :=
  match i with
  | .satAddS8 => Sys2Proof.Machine.execSatAddS8 s
  | .satAddS16 => Sys2Proof.Machine.execSatAddS16 s
  | .satAddS32 => Sys2Proof.Machine.execSatAddS32 s
  | .satAddS64 => Sys2Proof.Machine.execSatAddS64 s
  | .satAddU8 => Sys2Proof.Machine.execSatAddU8 s
  | .satAddU16 => Sys2Proof.Machine.execSatAddU16 s
  | .satAddU32 => Sys2Proof.Machine.execSatAddU32 s
  | .satAddU64 => Sys2Proof.Machine.execSatAddU64 s
  | .satAddQS8 => Sys2Proof.Machine.execSatAddQS8 s
  | .satAddQS16 => Sys2Proof.Machine.execSatAddQS16 s
  | .satAddQS32 => Sys2Proof.Machine.execSatAddQS32 s
  | .satAddQS64 => Sys2Proof.Machine.execSatAddQS64 s
  | .satAddQU8 => Sys2Proof.Machine.execSatAddQU8 s
  | .satAddQU16 => Sys2Proof.Machine.execSatAddQU16 s
  | .satAddQU32 => Sys2Proof.Machine.execSatAddQU32 s
  | .satAddQU64 => Sys2Proof.Machine.execSatAddQU64 s
  | .satSubS8 => Sys2Proof.Machine.execSatSubS8 s
  | .satSubS16 => Sys2Proof.Machine.execSatSubS16 s
  | .satSubS32 => Sys2Proof.Machine.execSatSubS32 s
  | .satSubS64 => Sys2Proof.Machine.execSatSubS64 s
  | .satSubU8 => Sys2Proof.Machine.execSatSubU8 s
  | .satSubU16 => Sys2Proof.Machine.execSatSubU16 s
  | .satSubU32 => Sys2Proof.Machine.execSatSubU32 s
  | .satSubU64 => Sys2Proof.Machine.execSatSubU64 s
  | .satSubQS8 => Sys2Proof.Machine.execSatSubQS8 s
  | .satSubQS16 => Sys2Proof.Machine.execSatSubQS16 s
  | .satSubQS32 => Sys2Proof.Machine.execSatSubQS32 s
  | .satSubQS64 => Sys2Proof.Machine.execSatSubQS64 s
  | .satSubQU8 => Sys2Proof.Machine.execSatSubQU8 s
  | .satSubQU16 => Sys2Proof.Machine.execSatSubQU16 s
  | .satSubQU32 => Sys2Proof.Machine.execSatSubQU32 s
  | .satSubQU64 => Sys2Proof.Machine.execSatSubQU64 s
  | .satAbsS8 => Sys2Proof.Machine.execSatAbsS8 s
  | .satAbsS16 => Sys2Proof.Machine.execSatAbsS16 s
  | .satAbsS32 => Sys2Proof.Machine.execSatAbsS32 s
  | .satAbsS64 => Sys2Proof.Machine.execSatAbsS64 s
  | .satAbsU8 => Sys2Proof.Machine.execSatAbsU8 s
  | .satAbsU16 => Sys2Proof.Machine.execSatAbsU16 s
  | .satAbsU32 => Sys2Proof.Machine.execSatAbsU32 s
  | .satAbsU64 => Sys2Proof.Machine.execSatAbsU64 s
  | .satAbsQS8 => Sys2Proof.Machine.execSatAbsQS8 s
  | .satAbsQS16 => Sys2Proof.Machine.execSatAbsQS16 s
  | .satAbsQS32 => Sys2Proof.Machine.execSatAbsQS32 s
  | .satAbsQS64 => Sys2Proof.Machine.execSatAbsQS64 s
  | .satAbsQU8 => Sys2Proof.Machine.execSatAbsQU8 s
  | .satAbsQU16 => Sys2Proof.Machine.execSatAbsQU16 s
  | .satAbsQU32 => Sys2Proof.Machine.execSatAbsQU32 s
  | .satAbsQU64 => Sys2Proof.Machine.execSatAbsQU64 s
  | .satNegS8 => Sys2Proof.Machine.execSatNegS8 s
  | .satNegS16 => Sys2Proof.Machine.execSatNegS16 s
  | .satNegS32 => Sys2Proof.Machine.execSatNegS32 s
  | .satNegS64 => Sys2Proof.Machine.execSatNegS64 s
  | .satNegU8 => Sys2Proof.Machine.execSatNegU8 s
  | .satNegU16 => Sys2Proof.Machine.execSatNegU16 s
  | .satNegU32 => Sys2Proof.Machine.execSatNegU32 s
  | .satNegU64 => Sys2Proof.Machine.execSatNegU64 s
  | .satNegQS8 => Sys2Proof.Machine.execSatNegQS8 s
  | .satNegQS16 => Sys2Proof.Machine.execSatNegQS16 s
  | .satNegQS32 => Sys2Proof.Machine.execSatNegQS32 s
  | .satNegQS64 => Sys2Proof.Machine.execSatNegQS64 s
  | .satNegQU8 => Sys2Proof.Machine.execSatNegQU8 s
  | .satNegQU16 => Sys2Proof.Machine.execSatNegQU16 s
  | .satNegQU32 => Sys2Proof.Machine.execSatNegQU32 s
  | .satNegQU64 => Sys2Proof.Machine.execSatNegQU64 s
  | .haddS8 => Sys2Proof.Machine.execHaddS8 s
  | .haddS16 => Sys2Proof.Machine.execHaddS16 s
  | .haddS32 => Sys2Proof.Machine.execHaddS32 s
  | .haddS64 => Sys2Proof.Machine.execHaddS64 s
  | .haddU8 => Sys2Proof.Machine.execHaddU8 s
  | .haddU16 => Sys2Proof.Machine.execHaddU16 s
  | .haddU32 => Sys2Proof.Machine.execHaddU32 s
  | .haddU64 => Sys2Proof.Machine.execHaddU64 s
  | .haddQS8 => Sys2Proof.Machine.execHaddQS8 s
  | .haddQS16 => Sys2Proof.Machine.execHaddQS16 s
  | .haddQS32 => Sys2Proof.Machine.execHaddQS32 s
  | .haddQS64 => Sys2Proof.Machine.execHaddQS64 s
  | .haddQU8 => Sys2Proof.Machine.execHaddQU8 s
  | .haddQU16 => Sys2Proof.Machine.execHaddQU16 s
  | .haddQU32 => Sys2Proof.Machine.execHaddQU32 s
  | .haddQU64 => Sys2Proof.Machine.execHaddQU64 s
  | .rhaddS8 => Sys2Proof.Machine.execRhaddS8 s
  | .rhaddS16 => Sys2Proof.Machine.execRhaddS16 s
  | .rhaddS32 => Sys2Proof.Machine.execRhaddS32 s
  | .rhaddS64 => Sys2Proof.Machine.execRhaddS64 s
  | .rhaddU8 => Sys2Proof.Machine.execRhaddU8 s
  | .rhaddU16 => Sys2Proof.Machine.execRhaddU16 s
  | .rhaddU32 => Sys2Proof.Machine.execRhaddU32 s
  | .rhaddU64 => Sys2Proof.Machine.execRhaddU64 s
  | .rhaddQS8 => Sys2Proof.Machine.execRhaddQS8 s
  | .rhaddQS16 => Sys2Proof.Machine.execRhaddQS16 s
  | .rhaddQS32 => Sys2Proof.Machine.execRhaddQS32 s
  | .rhaddQS64 => Sys2Proof.Machine.execRhaddQS64 s
  | .rhaddQU8 => Sys2Proof.Machine.execRhaddQU8 s
  | .rhaddQU16 => Sys2Proof.Machine.execRhaddQU16 s
  | .rhaddQU32 => Sys2Proof.Machine.execRhaddQU32 s
  | .rhaddQU64 => Sys2Proof.Machine.execRhaddQU64 s
  | .hsubS8 => Sys2Proof.Machine.execHsubS8 s
  | .hsubS16 => Sys2Proof.Machine.execHsubS16 s
  | .hsubS32 => Sys2Proof.Machine.execHsubS32 s
  | .hsubS64 => Sys2Proof.Machine.execHsubS64 s
  | .hsubU8 => Sys2Proof.Machine.execHsubU8 s
  | .hsubU16 => Sys2Proof.Machine.execHsubU16 s
  | .hsubU32 => Sys2Proof.Machine.execHsubU32 s
  | .hsubU64 => Sys2Proof.Machine.execHsubU64 s
  | .hsubQS8 => Sys2Proof.Machine.execHsubQS8 s
  | .hsubQS16 => Sys2Proof.Machine.execHsubQS16 s
  | .hsubQS32 => Sys2Proof.Machine.execHsubQS32 s
  | .hsubQS64 => Sys2Proof.Machine.execHsubQS64 s
  | .hsubQU8 => Sys2Proof.Machine.execHsubQU8 s
  | .hsubQU16 => Sys2Proof.Machine.execHsubQU16 s
  | .hsubQU32 => Sys2Proof.Machine.execHsubQU32 s
  | .hsubQU64 => Sys2Proof.Machine.execHsubQU64 s
  | .narrowS16 => Sys2Proof.Machine.execNarrowS16 s
  | .narrowS32 => Sys2Proof.Machine.execNarrowS32 s
  | .narrowS64 => Sys2Proof.Machine.execNarrowS64 s
  | .narrowU16 => Sys2Proof.Machine.execNarrowU16 s
  | .narrowU32 => Sys2Proof.Machine.execNarrowU32 s
  | .narrowU64 => Sys2Proof.Machine.execNarrowU64 s
  | .narrowSatS16 => Sys2Proof.Machine.execNarrowSatS16 s
  | .narrowSatS32 => Sys2Proof.Machine.execNarrowSatS32 s
  | .narrowSatS64 => Sys2Proof.Machine.execNarrowSatS64 s
  | .narrowSatU16 => Sys2Proof.Machine.execNarrowSatU16 s
  | .narrowSatU32 => Sys2Proof.Machine.execNarrowSatU32 s
  | .narrowSatU64 => Sys2Proof.Machine.execNarrowSatU64 s
  | .narrowSatunS16 => Sys2Proof.Machine.execNarrowSatunS16 s
  | .narrowSatunS32 => Sys2Proof.Machine.execNarrowSatunS32 s
  | .narrowSatunS64 => Sys2Proof.Machine.execNarrowSatunS64 s
  | .widenS8 => Sys2Proof.Machine.execWidenS8 s
  | .widenS16 => Sys2Proof.Machine.execWidenS16 s
  | .widenS32 => Sys2Proof.Machine.execWidenS32 s
  | .widenU8 => Sys2Proof.Machine.execWidenU8 s
  | .widenU16 => Sys2Proof.Machine.execWidenU16 s
  | .widenU32 => Sys2Proof.Machine.execWidenU32 s
  | .extractLaneS8 => Sys2Proof.Machine.execExtractLaneS8 s
  | .extractLaneS16 => Sys2Proof.Machine.execExtractLaneS16 s
  | .extractLaneS32 => Sys2Proof.Machine.execExtractLaneS32 s
  | .extractLaneS64 => Sys2Proof.Machine.execExtractLaneS64 s
  | .extractLaneU8 => Sys2Proof.Machine.execExtractLaneU8 s
  | .extractLaneU16 => Sys2Proof.Machine.execExtractLaneU16 s
  | .extractLaneU32 => Sys2Proof.Machine.execExtractLaneU32 s
  | .extractLaneU64 => Sys2Proof.Machine.execExtractLaneU64 s
  | .extractLaneQS8 => Sys2Proof.Machine.execExtractLaneQS8 s
  | .extractLaneQS16 => Sys2Proof.Machine.execExtractLaneQS16 s
  | .extractLaneQS32 => Sys2Proof.Machine.execExtractLaneQS32 s
  | .extractLaneQS64 => Sys2Proof.Machine.execExtractLaneQS64 s
  | .extractLaneQU8 => Sys2Proof.Machine.execExtractLaneQU8 s
  | .extractLaneQU16 => Sys2Proof.Machine.execExtractLaneQU16 s
  | .extractLaneQU32 => Sys2Proof.Machine.execExtractLaneQU32 s
  | .extractLaneQU64 => Sys2Proof.Machine.execExtractLaneQU64 s
  | .insertLaneS8 => Sys2Proof.Machine.execInsertLaneS8 s
  | .insertLaneS16 => Sys2Proof.Machine.execInsertLaneS16 s
  | .insertLaneS32 => Sys2Proof.Machine.execInsertLaneS32 s
  | .insertLaneS64 => Sys2Proof.Machine.execInsertLaneS64 s
  | .insertLaneU8 => Sys2Proof.Machine.execInsertLaneU8 s
  | .insertLaneU16 => Sys2Proof.Machine.execInsertLaneU16 s
  | .insertLaneU32 => Sys2Proof.Machine.execInsertLaneU32 s
  | .insertLaneU64 => Sys2Proof.Machine.execInsertLaneU64 s
  | .insertLaneQS8 => Sys2Proof.Machine.execInsertLaneQS8 s
  | .insertLaneQS16 => Sys2Proof.Machine.execInsertLaneQS16 s
  | .insertLaneQS32 => Sys2Proof.Machine.execInsertLaneQS32 s
  | .insertLaneQS64 => Sys2Proof.Machine.execInsertLaneQS64 s
  | .insertLaneQU8 => Sys2Proof.Machine.execInsertLaneQU8 s
  | .insertLaneQU16 => Sys2Proof.Machine.execInsertLaneQU16 s
  | .insertLaneQU32 => Sys2Proof.Machine.execInsertLaneQU32 s
  | .insertLaneQU64 => Sys2Proof.Machine.execInsertLaneQU64 s
  | .tbl1S8 => Sys2Proof.Machine.execTbl1S8 s
  | .tbl2S8 => Sys2Proof.Machine.execTbl2S8 s
  | .tbl3S8 => Sys2Proof.Machine.execTbl3S8 s
  | .tbl4S8 => Sys2Proof.Machine.execTbl4S8 s
  | .tbl1U8 => Sys2Proof.Machine.execTbl1U8 s
  | .tbl2U8 => Sys2Proof.Machine.execTbl2U8 s
  | .tbl3U8 => Sys2Proof.Machine.execTbl3U8 s
  | .tbl4U8 => Sys2Proof.Machine.execTbl4U8 s
  | .tbl1QS8 => Sys2Proof.Machine.execTbl1QS8 s
  | .tbl2QS8 => Sys2Proof.Machine.execTbl2QS8 s
  | .tbl3QS8 => Sys2Proof.Machine.execTbl3QS8 s
  | .tbl4QS8 => Sys2Proof.Machine.execTbl4QS8 s
  | .tbl1QU8 => Sys2Proof.Machine.execTbl1QU8 s
  | .tbl2QU8 => Sys2Proof.Machine.execTbl2QU8 s
  | .tbl3QU8 => Sys2Proof.Machine.execTbl3QU8 s
  | .tbl4QU8 => Sys2Proof.Machine.execTbl4QU8 s
  | .tbx1S8 => Sys2Proof.Machine.execTbx1S8 s
  | .tbx2S8 => Sys2Proof.Machine.execTbx2S8 s
  | .tbx3S8 => Sys2Proof.Machine.execTbx3S8 s
  | .tbx4S8 => Sys2Proof.Machine.execTbx4S8 s
  | .tbx1U8 => Sys2Proof.Machine.execTbx1U8 s
  | .tbx2U8 => Sys2Proof.Machine.execTbx2U8 s
  | .tbx3U8 => Sys2Proof.Machine.execTbx3U8 s
  | .tbx4U8 => Sys2Proof.Machine.execTbx4U8 s
  | .tbx1QS8 => Sys2Proof.Machine.execTbx1QS8 s
  | .tbx2QS8 => Sys2Proof.Machine.execTbx2QS8 s
  | .tbx3QS8 => Sys2Proof.Machine.execTbx3QS8 s
  | .tbx4QS8 => Sys2Proof.Machine.execTbx4QS8 s
  | .tbx1QU8 => Sys2Proof.Machine.execTbx1QU8 s
  | .tbx2QU8 => Sys2Proof.Machine.execTbx2QU8 s
  | .tbx3QU8 => Sys2Proof.Machine.execTbx3QU8 s
  | .tbx4QU8 => Sys2Proof.Machine.execTbx4QU8 s
  | .qdS8 => Sys2Proof.Machine.execQdS8 s
  | .qdS16 => Sys2Proof.Machine.execQdS16 s
  | .qdS32 => Sys2Proof.Machine.execQdS32 s
  | .qdS64 => Sys2Proof.Machine.execQdS64 s
  | .qdQS8 => Sys2Proof.Machine.execQdQS8 s
  | .qdQS16 => Sys2Proof.Machine.execQdQS16 s
  | .qdQS32 => Sys2Proof.Machine.execQdQS32 s
  | .qdQS64 => Sys2Proof.Machine.execQdQS64 s

end Sys2Proof.Machine
end

