-- ==== Sys2Proof/Machine/Step.lean ====
section
/-! DEFINITION. One transaction: decode the command word presented on `CMD` and carry the command out (00_scope.md rule R12).
Nothing is fetched (10_state.md rule R31): the command word is where the host puts it. -/

namespace Sys2Proof.Machine

/-- One transaction. A reserved word has no step, whatever the other ports carry (30_encoding.md rule R64; 60_exceptions.md
rule R165). -/
def step (s : State) : Host.Outcome State Fault Refusal :=
  match decode s.inputs.cmd with
  | .command i => exec i s
  | .invalid => .refused (.reservedCommand s.inputs.cmd)

/-- `s` with the first `nbits` bits of `w` on port `CMD`, zero above: the command the next step carries out (assumption log
entry 4). -/
def State.withFetchWord (s : State) (nbits w : Nat) : State :=
  { s with inputs := { s.inputs with cmd := BitVec.ofNat 16 (w % 2 ^ nbits) } }

end Sys2Proof.Machine
end

