-- ==== Sys2Proof/Machine/Mechanisms.lean ====
section
/-! DEFINITION. The bit-level mechanisms the spec gives beside the laws: each computes within the lane width what a law gives
over unbounded integers. The commands are defined by the laws (00_scope.md rule R3); that the two agree is claimed, not
assumed. -/

namespace Sys2Proof.Machine

/-! ## Bit-vector primitives (00_scope.md rule R18) -/

/-- `fill_N(b)`. -/
def fill (n : Nat) (b : Bool) : BitVec n :=
  if b then BitVec.allOnes n else 0

/-- `sel(m, x, y)`. -/
def sel {n : Nat} (m x y : BitVec n) : BitVec n :=
  (m &&& x) ||| (~~~m &&& y)

/-- `asr_N(v, 1)` for a signed lane, `lsr_N(v, 1)` for an unsigned one. -/
def halve (t : Sign) {n : Nat} (v : BitVec n) : BitVec n :=
  match t with
  | .signed => v.sshiftRight 1
  | .unsigned => v >>> 1

/-- Bit 0 of a lane, as a lane. -/
def lowBit {n : Nat} (v : BitVec n) : BitVec n :=
  (v.extractLsb' 0 1).setWidth n

/-- The saturation limit whose sign matches `a` (40_saturating.md rule R81). -/
def limitOf {w : Nat} (a : BitVec w) : BitVec w :=
  if a.msb then truncTo w (laneMin .signed w) else truncTo w (laneMax .signed w)

/-! ## Saturating (40_saturating.md) -/

/-- Signed add by sign comparison (40_saturating.md rule R81). -/
def satAddMechanism {w : Nat} (a b : BitVec w) : BitVec w :=
  let s := a + b
  let ovf := (~~~(a ^^^ b) &&& (a ^^^ s)).msb
  sel (fill w ovf) (limitOf a) s

/-- Signed subtract, the subtraction form of 40_saturating.md rule R81. -/
def satSubMechanism {w : Nat} (a b : BitVec w) : BitVec w :=
  let d := a - b
  let ovf := ((a ^^^ b) &&& (a ^^^ d)).msb
  sel (fill w ovf) (limitOf a) d

/-- Unsigned add by the carry test of 40_saturating.md rule R83. -/
def satAddCarry {w : Nat} (a b : BitVec w) : BitVec w :=
  let s := a + b
  if s.toNat < a.toNat then BitVec.allOnes w else s

/-- Unsigned subtract by the borrow test of 40_saturating.md rule R85. -/
def satSubBorrow {w : Nat} (a b : BitVec w) : BitVec w :=
  if a.toNat < b.toNat then 0 else a - b

/-! ## Halving (41_halving.md) -/

/-- `(a & b) + ((a ^ b) >> 1)` (41_halving.md rule R101). -/
def haddMechanism (t : Sign) {w : Nat} (a b : BitVec w) : BitVec w :=
  (a &&& b) + halve t (a ^^^ b)

/-- Both operands shifted, then a correction of 1 when `a | b` is odd (41_halving.md rule R109). -/
def rhaddMechanism (t : Sign) {w : Nat} (a b : BitVec w) : BitVec w :=
  halve t a + halve t b + lowBit (a ||| b)

/-- The unsigned `hadd` from a rounding average (41_halving.md rule R109, last sentence; 90_conflicts.md C2). -/
def haddFromAverage {w : Nat} (a b : BitVec w) : BitVec w :=
  rhadd .unsigned a b - lowBit (a ^^^ b)

/-- `((a ^ b) >> 1) - (~a & b)` (41_halving.md rules R106 and R107). -/
def hsubMechanism (t : Sign) {w : Nat} (a b : BitVec w) : BitVec w :=
  halve t (a ^^^ b) - (~~~a &&& b)

/-! ## Widening and narrowing (42_widen_narrow.md) -/

/-- The extension lane of an operand lane: its sign bit throughout for a signed lane, zero for an unsigned one
(42_widen_narrow.md rule R123). -/
def extensionLane (t : Sign) {w : Nat} (a : BitVec w) : BitVec w :=
  match t with
  | .signed => fill w a.msb
  | .unsigned => 0

/-- Operand lanes interleaved with their extension lanes: lane `k` at position `2k`, its extension at `2k + 1`
(42_widen_narrow.md rule R123). -/
def wideningMechanism (t : Sign) (w : Nat) (a : Vec) : Vec :=
  pack w (2 * laneCount .short w) fun j =>
    if j % 2 = 0 then lane w a (j / 2) else extensionLane t (lane w a (j / 2))

/-- The bits a narrowing to `h` bits discards, `a[W-1:H]` (42_widen_narrow.md rule R124). -/
def discarded (h : Nat) {w : Nat} (a : BitVec w) : BitVec (w - h) :=
  a.extractLsb' h (w - h)

/-- Signed to signed (42_widen_narrow.md rule R124): saturate exactly when the discarded bits are not all copies of the
retained sign bit. -/
def narrowSatSignedMechanism (h : Nat) {w : Nat} (a : BitVec w) : BitVec h :=
  if discarded h a = fill (w - h) (narrow h a).msb then narrow h a
  else if a.msb then truncTo h (laneMin .signed h) else truncTo h (laneMax .signed h)

/-- Unsigned to unsigned (42_widen_narrow.md rule R124): saturate exactly when a discarded bit is set. -/
def narrowSatUnsignedMechanism (h : Nat) {w : Nat} (a : BitVec w) : BitVec h :=
  if discarded h a = 0 then narrow h a else BitVec.allOnes h

/-- Signed to unsigned (42_widen_narrow.md rule R124): zero for a negative lane, the maximum where a discarded bit is set. -/
def narrowSatunMechanism (h : Nat) {w : Nat} (a : BitVec w) : BitVec h :=
  if a.msb then 0 else if discarded h a = 0 then narrow h a else BitVec.allOnes h

/-! ## Tables (44_table_lookup.md) -/

/-- Sequential range-and-select over the first `n` table registers (44_table_lookup.md rule R144). -/
def lookupSelect (q : RegSize) (p : Inputs) (i : Nat) (fallback : BitVec 8) : Nat → BitVec 8
  | 0 => fallback
  | j + 1 =>
    if j * byteCount q ≤ i ∧ i < (j + 1) * byteCount q then lane 8 (p.table j) (i - j * byteCount q)
    else lookupSelect q p i fallback j

/-! ## Doubling (45_doubling_saturate.md) -/

/-- Shift left by one and compare signs (45_doubling_saturate.md rule R151). -/
def qdMechanism {w : Nat} (a : BitVec w) : BitVec w :=
  let s := a <<< 1
  let ovf := (a ^^^ s).msb
  sel (fill w ovf) (limitOf a) s

end Sys2Proof.Machine
end

