-- ==== Sys2Proof/Machine/Session.lean ====
section
/-! DEFINITION. The block as a host sees it: transactions presented one at a time in the host's order, results returned in that
order (20_memory.md rule R46). -/

namespace Sys2Proof.Machine

/-- What a step drove on the output ports, none where the machine has no step. -/
def resultOf (o : Host.Outcome State Fault Refusal) : Option Outputs :=
  match o with
  | .next t => some t.outputs
  | .fault _ => none
  | .refused _ => none

/-- The state after a step, or `s` where the machine has no step: a refused transaction leaves nothing behind
(95_test_vectors.md, program 5; assumption log entry 9). -/
def stateAfter (s : State) (o : Host.Outcome State Fault Refusal) : State :=
  match o with
  | .next t => t
  | .fault _ => s
  | .refused _ => s

/-- What the block answers to one transaction presented in state `s`. -/
def respond (s : State) (p : Inputs) : Option Outputs :=
  resultOf (step (s.present p))

/-- What the block answers to a list of transactions presented in that order, each in the state the one before left. -/
def serve (s : State) : List Inputs → List (Option Outputs)
  | [] => []
  | p :: ps => respond s p :: serve (stateAfter s (step (s.present p))) ps

/-- The host presents the vector result as operand `A` of its next transaction (10_state.md rule R25; 70_reset_and_hazards.md
rule R183). -/
def State.feedback (s : State) : State :=
  s.present { s.inputs with a := s.outputs.r }

end Sys2Proof.Machine
end

