-- ==== Sys2Proof/Safety.lean ====
section
/-! DEFINITION. The terms the statements use: a well-formed transaction, and what it is for a command to drive the vector
result or the scalar result. -/

namespace Sys2Proof.Machine

/-- A well-formed transaction (00_scope.md rule R12): a legal command word (30_encoding.md rule R63) and, for lane access, an
index below the lane count (43_lane_access.md rule R132). -/
def Inputs.wf (p : Inputs) : Bool :=
  match decode p.cmd with
  | .invalid => false
  | .command i =>
    match formLaneBound i.form with
    | none => true
    | some n => p.idx.toNat < n

/-- From state `s` the outcome is a next state in which the input ports are unchanged, `X` is zero, and `R` holds exactly the
`n` lanes `f 0, f 1, …` of width `w`, every bit above them zero. -/
def DrivesLanes (n w : Nat) (s : State) (o : Host.Outcome State Fault Refusal) (f : Nat → BitVec w) : Prop :=
  ∃ t : State, o = .next t ∧ t.inputs = s.inputs ∧ t.outputs.x = 0 ∧ t.outputs.r.toNat < 2 ^ (n * w) ∧
    ∀ k, k < n → lane w t.outputs.r k = f k

/-- From state `s` the outcome is a next state in which the input ports are unchanged, `R` is zero, and `X` holds `v`. -/
def DrivesScalar (s : State) (o : Host.Outcome State Fault Refusal) (v : Scalar) : Prop :=
  ∃ t : State, o = .next t ∧ t.inputs = s.inputs ∧ t.outputs.r = 0 ∧ t.outputs.x = v

/-- The output ports are what the transaction on the input ports drives: carrying it out once more would change nothing
(10_state.md rule R35; 20_memory.md rule R45). -/
def State.Settled (s : State) : Prop :=
  ∀ t, step s = .next t → t = s

end Sys2Proof.Machine
end

