-- ==== Sys2Proof/Certificates/Slice0/Obligations.lean ====
section
/-! DEFINITION. The statements about the block, for the provers. -/

open Sys2Proof Sys2Proof.Machine

/-- Decoding the word of any command gives that command back. Rests on 30_encoding.md R55, 30_encoding.md R69,
30_encoding.md R72. -/
def Obligations.EncodedCommandsDecodeToThemselves : Prop :=
  ∀ i : Instr, i.wf = true ∧ decode (encode i) = .command i

/-- A word that decodes to a command is that command's one word. Rests on 30_encoding.md R55, 30_encoding.md R69. -/
def Obligations.EveryDecodedWordIsItsCommandsEncoding : Prop :=
  ∀ (c : Command) (i : Instr), decode c = .command i → c = encode i

/-- Every mnemonic is one command word and every legal word has exactly one mnemonic. Formalises R71. -/
def Obligations.MnemonicsAndLegalWordsCorrespond : Prop :=
  (∀ i j : Instr, i.mnemonic = j.mnemonic → i = j) ∧
    ∀ c : Command, decode c ≠ .invalid →
      ∃ i : Instr, decode c = .command i ∧ ∀ j : Instr, j.mnemonic = i.mnemonic → encode j = c

/-- No fields match two rows of the table of legal commands, and the rows admit 205 words in all. Rests on 30_encoding.md
R63, 30_encoding.md R69. -/
def Obligations.RowsOfTheLegalTableNeverOverlap : Prop :=
  legalRows.Pairwise (fun r r' => ∀ f : Fields, ¬(r.admits f = true ∧ r'.admits f = true)) ∧
    (legalRows.map LegalRow.count).sum = 205

/-- Of the 65536 words exactly 205 are commands. Rests on 30_encoding.md R63, 30_encoding.md R64, 30_encoding.md R72. -/
def Obligations.ExactlyTwoHundredFiveWordsAreLegal : Prop :=
  ∃ l : List Command, l.Nodup ∧ l.length = 205 ∧ (∀ c : Command, decode c ≠ .invalid ↔ c ∈ l) ∧
    (0x0000 : Command) ∉ l ∧ (0xFFFF : Command) ∉ l

/-- The decoder accepts a word exactly when bits [1:0] are zero and its fields match a row of R63, and names that row's
operation. Formalises R69. -/
def Obligations.WordIsLegalExactlyWhenItsFieldsMatchARow : Prop :=
  ∀ c : Command,
    ((Fields.ofWord c).legal = true → ∃ i : Instr, decode c = .command i ∧ (Fields.ofWord c).form = some i.form) ∧
    ((Fields.ofWord c).legal = false → decode c = .invalid)

/-- Words written out from the spec decode to their commands, and reserved neighbours do not decode. Rests on
30_encoding.md R72, 95_test_vectors.md section 3. -/
def Obligations.SampleWordsDecodeAsTheTableSays : Prop :=
  decode 0x10F0 = .command .satAddQU64 ∧ decode 0x2000 = .command .satSubS8 ∧ decode 0x3100 = .command .satNegS8 ∧
    decode 0x41D0 = .command .rhaddQU16 ∧ decode 0x5000 = .command .hsubS8 ∧ decode 0x6220 = .command .narrowSatunS32 ∧
    decode 0x7000 = .command .widenS8 ∧ decode 0x80D0 = .command .extractLaneQU16 ∧
    decode 0x9070 = .command .insertLaneU64 ∧ decode 0xA1C8 = .command .tbx3QU8 ∧ decode 0xB030 = .command .qdS64 ∧
    decode 0x1001 = .invalid ∧ decode 0x5100 = .invalid ∧ decode 0x6090 = .invalid ∧ decode 0x7030 = .invalid ∧
    decode 0xA050 = .invalid ∧ decode 0xB040 = .invalid

/-- A step carries out the command that the word on CMD decodes to. Rests on 00_scope.md R12, 30_encoding.md R69. -/
def Obligations.StepRunsTheDecodedCommand : Prop :=
  ∀ (s : State) (i : Instr), decode s.inputs.cmd = .command i → step s = exec i s

/-- A step answers a next state exactly when the transaction is well formed. Formalises R13. -/
def Obligations.WellFormedTransactionsAreExactlyThoseThatComplete : Prop :=
  ∀ s : State, (∃ t : State, step s = .next t) ↔ s.inputs.wf = true

/-- A command stops only if it is a lane access whose index is out of range, and every command can run from every state.
Rests on 60_exceptions.md R160, 60_exceptions.md R161, 60_exceptions.md R168. -/
def Obligations.OnlyALaneIndexOutOfRangeStopsACommand : Prop :=
  (∀ (i : Instr) (s : State),
      (∃ t : State, exec i s = .next t) ∨
      ∃ (q : RegSize) (u : Sign) (w : Width), (i = .ofExtractLane q u w ∨ i = .ofInsertLane q u w) ∧
        laneCount q w.bits ≤ s.inputs.idx.toNat ∧
        exec i s = .refused (.laneIndexOutOfRange s.inputs.idx (laneCount q w.bits))) ∧
    ∀ (i : Instr) (s : State), ∃ t : State, step (s.present { s.inputs with cmd := encode i, idx := 0 }) = .next t

/-- The machine has no step for a reserved word, nor for a lane index out of range, and refuses nothing else. Formalises
R162. -/
def Obligations.RefusalsAreReservedWordsAndIndicesOutOfRange : Prop :=
  ∀ (s : State) (r : Refusal), step s = .refused r ↔
    ((Fields.ofWord s.inputs.cmd).legal = false ∧ r = .reservedCommand s.inputs.cmd) ∨
    (∃ (i : Instr) (n : Nat), decode s.inputs.cmd = .command i ∧ formLaneBound i.form = some n ∧
      n ≤ s.inputs.idx.toNat ∧ r = .laneIndexOutOfRange s.inputs.idx n)

/-- The whole outcome of a step depends on the input ports only. Formalises R20. -/
def Obligations.ResultIsAFunctionOfTheInputPorts : Prop :=
  (∀ s s' : State, s.inputs = s'.inputs → step s = step s') ∧
    ∀ s t : State, step s = .next t → t.inputs = s.inputs

/-- After any step the output ports are the function of the input ports, and stay so. Rests on 20_memory.md R45,
10_state.md R35. -/
def Obligations.EveryStepLeavesASettledState : Prop :=
  ∀ s t : State, step s = .next t → t.Settled ∧ (s.Settled → t = s)

/-- The reset state is settled, and its command word is reserved (the reset values are the model's choice, log 2). Rests
on 10_state.md R35, 30_encoding.md R64, notes/assumptions/2.md. -/
def Obligations.ResetIsSettledAndPlacesNoCommand : Prop :=
  State.reset.Settled ∧ step State.reset = .refused (.reservedCommand 0x0000)

/-- Every step drives the port its command produces and zero on the other. Formalises R29. -/
def Obligations.EveryStepDrivesOneOutputPort : Prop :=
  (∀ (i : Instr) (s t : State), exec i s = .next t →
      (i.form.resultPort = .r → t.outputs.x = 0) ∧ (i.form.resultPort = .x → t.outputs.r = 0)) ∧
    (∀ i : Instr, i.form.resultPort = .x ↔ ∃ (q : RegSize) (u : Sign) (w : Width), i = .ofExtractLane q u w) ∧
    ∀ s t : State, step s = .next t → t.outputs.x = 0 ∨ t.outputs.r = 0

/-- The vector result occupies the lanes of its layout, which the command alone fixes; every bit above is zero. Rests on
10_state.md R24, 10_state.md R28, 30_encoding.md R65. -/
def Obligations.ResultsFillTheirLayoutAndNoMore : Prop :=
  ∀ (i : Instr) (l : Layout), formLayout i.form = some l →
    (l.lanes * l.resultWidth = 64 ∨ l.lanes * l.resultWidth = 128) ∧
    ∀ s t : State, exec i s = .next t → t.outputs.r.toNat < 2 ^ (l.lanes * l.resultWidth)

/-- A port, or a part of a port, that a command does not read has no effect on its results. Rests on 10_state.md R26,
10_state.md R28, 30_encoding.md R65, 43_lane_access.md R135, 93_implementation_defined.md U4. -/
def Obligations.UnreadPortBitsHaveNoEffect : Prop :=
  ∀ (i : Instr) (s s' : State), formRead i.form s.inputs = formRead i.form s'.inputs →
    resultOf (exec i s) = resultOf (exec i s')

/-- Every result lane is computed from the operand lanes at its own position (and the table, S and IDX). Rests on
70_reset_and_hazards.md section 3, "Lanes do not interact". The spec marks the sentence as an inference of its own
([derived]). -/
def Obligations.LanesDoNotInteract : Prop :=
  ∀ (i : Instr) (l : Layout) (k : Nat) (s s' t t' : State), formLayout i.form = some l → k < l.lanes →
    (Port.t0 ∈ i.form.operands → ∀ j, s.inputs.table j = s'.inputs.table j) →
    (Port.s ∈ i.form.operands → s.inputs.s = s'.inputs.s) →
    (Port.idx ∈ i.form.operands → s.inputs.idx = s'.inputs.idx) →
    lane l.operandWidth s.inputs.a k = lane l.operandWidth s'.inputs.a k →
    lane l.operandWidth s.inputs.b k = lane l.operandWidth s'.inputs.b k →
    exec i s = .next t → exec i s' = .next t' →
    lane l.resultWidth t.outputs.r k = lane l.resultWidth t'.outputs.r k

/-- A sequence of transactions is answered in order, each as if it stood alone (after a refused one, by log 9). Rests on
20_memory.md R46, 95_test_vectors.md program 5, notes/assumptions/9.md. That a session goes on after a refused
transaction is the model's choice (DEDUCED, log 9), not R46. -/
def Obligations.SessionsAnswerEveryTransactionAlone : Prop :=
  (∀ (s s' : State) (ps : List Inputs), serve s ps = ps.map (respond s')) ∧
    ∀ (s s' : State) (ps ps' : List Inputs), ps.Perm ps' →
      (ps.zip (serve s ps)).Perm (ps'.zip (serve s' ps'))

/-- sat_add: every lane of R is the exact sum clamped to the lane type. Formalises R82, R83. -/
def Obligations.SatAddClampsTheExactSumInEveryLane : Prop :=
  ∀ (q : RegSize) (t : Sign) (w : Width),
    decode (commandWord 0x1000 q t w) = .command (.ofSatAdd q t w) ∧
    ∀ s : State, DrivesLanes (laneCount q w.bits) w.bits s (exec (.ofSatAdd q t w) s) fun k =>
      truncTo w.bits (clamp (intOf t (lane w.bits s.inputs.a k) + intOf t (lane w.bits s.inputs.b k))
        (laneMin t w.bits) (laneMax t w.bits))

/-- sat_sub: every lane of R is the exact difference clamped to the lane type. Formalises R84, R85. -/
def Obligations.SatSubClampsTheExactDifferenceInEveryLane : Prop :=
  ∀ (q : RegSize) (t : Sign) (w : Width),
    decode (commandWord 0x2000 q t w) = .command (.ofSatSub q t w) ∧
    ∀ s : State, DrivesLanes (laneCount q w.bits) w.bits s (exec (.ofSatSub q t w) s) fun k =>
      truncTo w.bits (clamp (intOf t (lane w.bits s.inputs.a k) - intOf t (lane w.bits s.inputs.b k))
        (laneMin t w.bits) (laneMax t w.bits))

/-- sat_abs on signed lanes: the magnitude, with SMIN giving SMAX. Formalises R86. -/
def Obligations.SatAbsSignedClampsTheMagnitude : Prop :=
  ∀ (q : RegSize) (w : Width),
    decode (commandWord 0x3000 q .signed w) = .command (.ofSatAbs q .signed w) ∧
    ∀ s : State,
      (DrivesLanes (laneCount q w.bits) w.bits s (exec (.ofSatAbs q .signed w) s) fun k =>
        truncTo w.bits (clamp |(lane w.bits s.inputs.a k).toInt| (laneMin .signed w.bits) (laneMax .signed w.bits))) ∧
      ∀ (t : State) (k : Nat), exec (.ofSatAbs q .signed w) s = .next t → k < laneCount q w.bits →
        0 ≤ (lane w.bits t.outputs.r k).toInt

/-- sat_abs on unsigned lanes: every lane passes through, and a short result is zero above. Formalises R87. -/
def Obligations.SatAbsUnsignedPassesLanesThrough : Prop :=
  ∀ (q : RegSize) (w : Width),
    decode (commandWord 0x3000 q .unsigned w) = .command (.ofSatAbs q .unsigned w) ∧
    ∀ s : State,
      (DrivesLanes (laneCount q w.bits) w.bits s (exec (.ofSatAbs q .unsigned w) s) fun k =>
        lane w.bits s.inputs.a k) ∧
      exec (.ofSatAbs q .unsigned w) s =
        .next { inputs := s.inputs, outputs := { r := (s.inputs.a.setWidth q.bits).setWidth 128, x := 0 } }

/-- sat_neg on signed lanes: the negation, with SMIN giving SMAX. Formalises R88. -/
def Obligations.SatNegSignedClampsTheNegation : Prop :=
  ∀ (q : RegSize) (w : Width),
    decode (commandWord 0x3100 q .signed w) = .command (.ofSatNeg q .signed w) ∧
    ∀ s : State,
      (DrivesLanes (laneCount q w.bits) w.bits s (exec (.ofSatNeg q .signed w) s) fun k =>
        truncTo w.bits (clamp (-(lane w.bits s.inputs.a k).toInt) (laneMin .signed w.bits) (laneMax .signed w.bits))) ∧
      (DrivesLanes (laneCount q w.bits) w.bits s (exec (.ofSatNeg q .signed w) s) fun k =>
        if (lane w.bits s.inputs.a k) = truncTo w.bits (laneMin .signed w.bits) then truncTo w.bits (laneMax .signed w.bits)
        else -(lane w.bits s.inputs.a k))

/-- sat_neg on unsigned lanes: R is zero for every operand. Formalises R89. -/
def Obligations.SatNegUnsignedIsZero : Prop :=
  ∀ (q : RegSize) (w : Width),
    decode (commandWord 0x3100 q .unsigned w) = .command (.ofSatNeg q .unsigned w) ∧
    ∀ s : State,
      exec (.ofSatNeg q .unsigned w) s = .next { inputs := s.inputs, outputs := { r := 0, x := 0 } }

/-- hadd: every lane of R is floor((a + b)/2). Formalises R102, R103. -/
def Obligations.HaddFloorsTheExactMean : Prop :=
  ∀ (q : RegSize) (t : Sign) (w : Width),
    decode (commandWord 0x4000 q t w) = .command (.ofHadd q t w) ∧
    ∀ s : State, DrivesLanes (laneCount q w.bits) w.bits s (exec (.ofHadd q t w) s) fun k =>
      truncTo w.bits ⌊((intOf t (lane w.bits s.inputs.a k) + intOf t (lane w.bits s.inputs.b k) : Int) : Rat) / 2⌋

/-- rhadd: every lane of R is floor((a + b + 1)/2). Formalises R104, R105. -/
def Obligations.RhaddRoundsTiesTowardPlusInfinity : Prop :=
  ∀ (q : RegSize) (t : Sign) (w : Width),
    decode (commandWord 0x4100 q t w) = .command (.ofRhadd q t w) ∧
    ∀ s : State, DrivesLanes (laneCount q w.bits) w.bits s (exec (.ofRhadd q t w) s) fun k =>
      truncTo w.bits ⌊((intOf t (lane w.bits s.inputs.a k) + intOf t (lane w.bits s.inputs.b k) + 1 : Int) : Rat) / 2⌋

/-- hsub: every lane of R is floor((a - b)/2), cut to the lane. Formalises R106, R107. -/
def Obligations.HsubFloorsHalfTheDifference : Prop :=
  ∀ (q : RegSize) (t : Sign) (w : Width),
    decode (commandWord 0x5000 q t w) = .command (.ofHsub q t w) ∧
    ∀ s : State, DrivesLanes (laneCount q w.bits) w.bits s (exec (.ofHsub q t w) s) fun k =>
      truncTo w.bits ⌊((intOf t (lane w.bits s.inputs.a k) - intOf t (lane w.bits s.inputs.b k) : Int) : Rat) / 2⌋

/-- widen: every lane of a short register sign- or zero-extended to twice its width. Formalises R117, R118. -/
def Obligations.WidenExtendsEveryLane : Prop :=
  ∀ (t : Sign) (w : Width) (i : Instr), Instr.ofWiden t w = some i →
    decode (commandWord 0x7000 .short t w) = .command i ∧
    ∀ s : State,
      (DrivesLanes (laneCount .short w.bits) (2 * w.bits) s (exec i s) fun k =>
        match t with
        | .signed => (lane w.bits s.inputs.a k).signExtend (2 * w.bits)
        | .unsigned => (lane w.bits s.inputs.a k).zeroExtend (2 * w.bits)) ∧
      ∀ (s' : State) (k : Nat), exec i s = .next s' → k < laneCount .short w.bits →
        intOf t (lane (2 * w.bits) s'.outputs.r k) = intOf t (lane w.bits s.inputs.a k)

/-- narrow: every lane of a full register cut to its low half, whatever the type letter. Formalises R119. -/
def Obligations.NarrowKeepsTheLowHalf : Prop :=
  ∀ (t : Sign) (w : Width) (i : Instr), Instr.ofNarrow t w = some i →
    decode (commandWord 0x6000 .short t w) = .command i ∧
    (∀ s : State, DrivesLanes (laneCount .full w.bits) (w.bits / 2) s (exec i s) fun k =>
      (lane w.bits s.inputs.a k).extractLsb' 0 (w.bits / 2)) ∧
    ∀ (t' : Sign) (j : Instr), Instr.ofNarrow t' w = some j → ∀ s : State, exec j s = exec i s

/-- narrow_sat: every lane clamped to the same type of half the width. Formalises R120, R121. -/
def Obligations.NarrowSatClampsToTheHalfWidth : Prop :=
  ∀ (t : Sign) (w : Width) (i : Instr), Instr.ofNarrowSat t w = some i →
    decode (commandWord 0x6100 .short t w) = .command i ∧
    ∀ s : State, DrivesLanes (laneCount .full w.bits) (w.bits / 2) s (exec i s) fun k =>
      truncTo (w.bits / 2) (clamp (intOf t (lane w.bits s.inputs.a k)) (laneMin t (w.bits / 2)) (laneMax t (w.bits / 2)))

/-- narrow_satun: every signed lane clamped to an unsigned lane of half the width. Formalises R122. -/
def Obligations.NarrowSatunClampsSignedToUnsigned : Prop :=
  ∀ (w : Width) (i : Instr), Instr.ofNarrowSatun w = some i →
    decode (commandWord 0x6200 .short .signed w) = .command i ∧
    ∀ s : State, DrivesLanes (laneCount .full w.bits) (w.bits / 2) s (exec i s) fun k =>
      truncTo (w.bits / 2) (clamp (lane w.bits s.inputs.a k).toInt 0 (2 ^ (w.bits / 2) - 1))

/-- extract_lane: lane IDX of A, extended by its type, on X. Formalises R133. -/
def Obligations.ExtractLaneReadsTheIndexedLane : Prop :=
  ∀ (q : RegSize) (t : Sign) (w : Width),
    decode (commandWord 0x8000 q t w) = .command (.ofExtractLane q t w) ∧
    (∀ s : State, s.inputs.idx.toNat < laneCount q w.bits →
      DrivesScalar s (exec (.ofExtractLane q t w) s)
        (match t with
        | .signed => (lane w.bits s.inputs.a s.inputs.idx.toNat).signExtend 64
        | .unsigned => (lane w.bits s.inputs.a s.inputs.idx.toNat).zeroExtend 64)) ∧
    ∀ s : State, laneCount q w.bits ≤ s.inputs.idx.toNat →
      exec (.ofExtractLane q t w) s = .refused (.laneIndexOutOfRange s.inputs.idx (laneCount q w.bits))

/-- insert_lane: A with lane IDX replaced by the low bits of S, every other lane unchanged. Formalises R135. -/
def Obligations.InsertLaneReplacesTheIndexedLane : Prop :=
  ∀ (q : RegSize) (t : Sign) (w : Width),
    decode (commandWord 0x9000 q t w) = .command (.ofInsertLane q t w) ∧
    (∀ s : State, s.inputs.idx.toNat < laneCount q w.bits →
      DrivesLanes (laneCount q w.bits) w.bits s (exec (.ofInsertLane q t w) s) fun k =>
        if k = s.inputs.idx.toNat then s.inputs.s.setWidth w.bits else lane w.bits s.inputs.a k) ∧
    (∀ s : State, laneCount q w.bits ≤ s.inputs.idx.toNat →
      exec (.ofInsertLane q t w) s = .refused (.laneIndexOutOfRange s.inputs.idx (laneCount q w.bits))) ∧
    ∀ (t' : Sign) (s : State), exec (.ofInsertLane q t' w) s = exec (.ofInsertLane q t w) s

/-- The valid lane indices of every layout, and refusal outside them. Formalises R132. -/
def Obligations.LaneCountsBoundTheIndex : Prop :=
  (laneCount .short 8 = 8 ∧ laneCount .short 16 = 4 ∧ laneCount .short 32 = 2 ∧ laneCount .short 64 = 1 ∧
      laneCount .full 8 = 16 ∧ laneCount .full 16 = 8 ∧ laneCount .full 32 = 4 ∧ laneCount .full 64 = 2) ∧
    ∀ (q : RegSize) (t : Sign) (w : Width) (s : State), laneCount q w.bits ≤ s.inputs.idx.toNat →
      exec (.ofExtractLane q t w) s = .refused (.laneIndexOutOfRange s.inputs.idx (laneCount q w.bits)) ∧
      exec (.ofInsertLane q t w) s = .refused (.laneIndexOutOfRange s.inputs.idx (laneCount q w.bits))

/-- tbl: the table byte each index selects, zero for an index out of range. Formalises R142. -/
def Obligations.TblGivesZeroOutOfRange : Prop :=
  ∀ (n : TableCount) (q : RegSize) (t : Sign),
    decode (tableWord 0xA000 n q t) = .command (.ofTbl n q t) ∧
    (∀ s : State, DrivesLanes (q.bits / 8) 8 s (exec (.ofTbl n q t) s) fun k =>
      if (lane 8 s.inputs.a k).toNat < n.count * (q.bits / 8) then
        lane 8 (s.inputs.table ((lane 8 s.inputs.a k).toNat / (q.bits / 8))) ((lane 8 s.inputs.a k).toNat % (q.bits / 8))
      else 0) ∧
    ∀ (t' : Sign) (s : State), exec (.ofTbl n q t') s = exec (.ofTbl n q t) s

/-- tbx: the table byte each index selects, the fallback byte for an index out of range. Formalises R143. -/
def Obligations.TbxGivesTheFallbackOutOfRange : Prop :=
  ∀ (n : TableCount) (q : RegSize) (t : Sign),
    decode (tableWord 0xA100 n q t) = .command (.ofTbx n q t) ∧
    (∀ s : State, DrivesLanes (q.bits / 8) 8 s (exec (.ofTbx n q t) s) fun k =>
      if (lane 8 s.inputs.a k).toNat < n.count * (q.bits / 8) then
        lane 8 (s.inputs.table ((lane 8 s.inputs.a k).toNat / (q.bits / 8))) ((lane 8 s.inputs.a k).toNat % (q.bits / 8))
      else lane 8 s.inputs.b k) ∧
    ∀ (t' : Sign) (s : State), exec (.ofTbx n q t') s = exec (.ofTbx n q t) s

/-- qd: every signed lane doubled and clamped. Formalises R152. -/
def Obligations.QdClampsTheExactDouble : Prop :=
  ∀ (q : RegSize) (w : Width),
    decode (commandWord 0xB000 q .signed w) = .command (.ofQd q w) ∧
    ∀ s : State, DrivesLanes (laneCount q w.bits) w.bits s (exec (.ofQd q w) s) fun k =>
      truncTo w.bits (clamp (2 * (lane w.bits s.inputs.a k).toInt) (laneMin .signed w.bits) (laneMax .signed w.bits))

/-- qd is signed sat_add with equal operands, and signed sat_neg(a) is sat_sub(0, a) (two inferences the spec marks as its
own). Rests on 45_doubling_saturate.md R152, last corner case, 40_saturating.md R88, last corner case, 10_state.md
section 2, no aliasing constraint. The spec marks both sentences as inferences of its own ([derived]). -/
def Obligations.DoublingIsAddingALaneToItself : Prop :=
  ∀ (q : RegSize) (w : Width) (s : State),
    (s.inputs.b = s.inputs.a → exec (.ofSatAdd q .signed w) s = exec (.ofQd q w) s) ∧
    resultOf (exec (.ofSatNeg q .signed w) s) =
      resultOf (exec (.ofSatSub q .signed w) (s.present { s.inputs with a := 0, b := s.inputs.a }))

/-- The sign-comparison mechanism gives the saturating sum, its subtraction form the difference. Rests on 40_saturating.md
section 1, mechanism for signed lanes and its subtraction form. The spec marks the sentence as an inference of its own
([derived]). -/
def Obligations.SignMechanismEqualsSignedSaturation : Prop :=
  ∀ (w : Width) (a b : BitVec w.bits),
    satAddMechanism a b = satAdd .signed a b ∧ satSubMechanism a b = satSub .signed a b

/-- The carry test gives the unsigned saturating sum, the borrow test the difference. Rests on 40_saturating.md sections 2
and 3, carry and borrow tests. The spec marks the sentence as an inference of its own ([derived]). -/
def Obligations.CarryAndBorrowTestsEqualUnsignedSaturation : Prop :=
  ∀ (w : Width) (a b : BitVec w.bits),
    satAddCarry a b = satAdd .unsigned a b ∧ satSubBorrow a b = satSub .unsigned a b

/-- (a & b) + ((a ^ b) >> 1) is the truncating halving add, signed and unsigned. Rests on 41_halving.md R101,
41_halving.md R100. That the identity and the mechanism hold for signed lanes too is an inference the spec marks as
its own ([derived: from rule R100]). -/
def Obligations.MaskAndShiftEqualsHadd : Prop :=
  ∀ (w : Width) (t : Sign) (a b : BitVec w.bits),
    haddMechanism t a b = hadd t a b ∧ intOf t a + intOf t b = intOf t (a &&& b) * 2 + intOf t (a ^^^ b)

/-- Shifting both operands and correcting by the low bit of a|b is the rounding halving add. Rests on 41_halving.md
section 1, mechanism for the rounding halving add, 90_conflicts.md C2. The spec marks the sentence as an inference of
its own ([derived]). -/
def Obligations.ShiftAndCorrectEqualsRhadd : Prop :=
  ∀ (w : Width) (a b : BitVec w.bits),
    (∀ t : Sign, rhaddMechanism t a b = rhadd t a b) ∧ haddFromAverage a b = hadd .unsigned a b

/-- ((a ^ b) >> 1) - (~a & b) is the halving subtract, signed and unsigned. Rests on 41_halving.md section 3, mechanisms
of hsub, 92_eei_decisions.md D14. The spec marks the sentence as an inference of its own ([derived]). -/
def Obligations.XorAndBorrowEqualsHsub : Prop :=
  ∀ (w : Width) (t : Sign) (a b : BitVec w.bits), hsubMechanism t a b = hsub t a b

/-- Interleaving each lane with its extension lane is widening. Formalises R123. -/
def Obligations.InterleavingEqualsWidening : Prop :=
  ∀ (t : Sign) (w : Width) (i : Instr), Instr.ofWiden t w = some i → ∀ s : State,
    exec i s = .next { inputs := s.inputs, outputs := { r := wideningMechanism t w.bits s.inputs.a, x := 0 } }

/-- Testing the discarded half gives the saturating narrowings. Rests on 42_widen_narrow.md section 3, mechanism of the
saturating narrowing, 90_conflicts.md C5. The spec marks the sentence as an inference of its own ([derived]). -/
def Obligations.DiscardedBitsTestEqualsSaturatingNarrow : Prop :=
  ∀ (w : Width), w ≠ .w8 → ∀ a : BitVec w.bits,
    narrowSatSignedMechanism (w.bits / 2) a = narrowSat .signed (w.bits / 2) a ∧
    narrowSatUnsignedMechanism (w.bits / 2) a = narrowSat .unsigned (w.bits / 2) a ∧
    narrowSatunMechanism (w.bits / 2) a = narrowSatun (w.bits / 2) a

/-- Sequential range-and-select over the table registers is the table lookup. Rests on 44_table_lookup.md section 1,
mechanism for tables of several registers. The spec marks the sentence as an inference of its own ([derived]). -/
def Obligations.RangeAndSelectEqualsLookup : Prop :=
  ∀ (n : TableCount) (q : RegSize) (p : Inputs) (i : Nat) (fallback : BitVec 8),
    lookupSelect q p i fallback n.count = lookup n q p i fallback

/-- Shifting left by one with the sign test is the doubling saturate, and the add mechanism with equal operands. Rests on
45_doubling_saturate.md, mechanism. The spec marks the sentence as an inference of its own ([derived]). -/
def Obligations.ShiftAndCompareSignsEqualsQd : Prop :=
  ∀ (w : Width) (a : BitVec w.bits), qdMechanism a = qd a ∧ qdMechanism a = satAddMechanism a a

/-- Algebra of the saturating family, and saturation exactly when the exact result is out of range. Rests on
40_saturating.md section 5, properties a model can check. The spec marks the sentence as an inference of its own
([derived]). -/
def Obligations.SaturationActsExactlyOutsideTheRange : Prop :=
  ∀ (w : Width) (t : Sign) (a b : BitVec w.bits),
    satAdd t a b = satAdd t b a ∧ satAdd t a 0 = a ∧ satSub t a 0 = a ∧ satSub t a a = 0 ∧
    (satAbs .signed a = if a.toInt < 0 then satNeg .signed a else a) ∧
    (satAdd t a b ≠ a + b ↔
      intOf t a + intOf t b < laneMin t w.bits ∨ laneMax t w.bits < intOf t a + intOf t b) ∧
    (satSub t a b ≠ a - b ↔
      intOf t a - intOf t b < laneMin t w.bits ∨ laneMax t w.bits < intOf t a - intOf t b) ∧
    (intOf t a + intOf t b < laneMin t w.bits → intOf t (satAdd t a b) = laneMin t w.bits) ∧
    (laneMax t w.bits < intOf t a + intOf t b → intOf t (satAdd t a b) = laneMax t w.bits) ∧
    (intOf t a - intOf t b < laneMin t w.bits → intOf t (satSub t a b) = laneMin t w.bits) ∧
    (laneMax t w.bits < intOf t a - intOf t b → intOf t (satSub t a b) = laneMax t w.bits)

/-- Read back as an integer, every saturating result is the clamped exact result. Formalises R80. -/
def Obligations.SaturatingResultsAreTheClampedIntegers : Prop :=
  ∀ (w : Width) (t : Sign) (a b : BitVec w.bits),
    intOf t (satAdd t a b) = max (laneMin t w.bits) (min (laneMax t w.bits) (intOf t a + intOf t b)) ∧
    intOf t (satSub t a b) = max (laneMin t w.bits) (min (laneMax t w.bits) (intOf t a - intOf t b)) ∧
    intOf t (satNeg t a) = max (laneMin t w.bits) (min (laneMax t w.bits) (-intOf t a)) ∧
    intOf t (satAbs t a) = max (laneMin t w.bits) (min (laneMax t w.bits) |intOf t a|)

/-- As integers hadd is floor((a + b)/2) and rhadd is floor((a + b + 1)/2), nothing lost in the lane. Formalises R100. -/
def Obligations.HalvingAddsNeverOverflow : Prop :=
  ∀ (w : Width) (t : Sign) (a b : BitVec w.bits),
    intOf t (hadd t a b) = ⌊((intOf t a + intOf t b : Int) : Rat) / 2⌋ ∧
    intOf t (rhadd t a b) = ⌊((intOf t a + intOf t b + 1 : Int) : Rat) / 2⌋

/-- Order, sum and tie laws of hadd, rhadd and hsub (inferences the spec draws). Rests on 41_halving.md section 4,
properties a model can check, 41_halving.md section 1, direction of rounding on a tie. The spec marks the sentence as
an inference of its own ([derived]). -/
def Obligations.HalvingResultsAreOrderedAndAddUp : Prop :=
  ∀ (w : Width) (t : Sign) (a b : BitVec w.bits),
    intOf t (hadd t a b) ≤ intOf t (rhadd t a b) ∧ intOf t (rhadd t a b) ≤ intOf t (hadd t a b) + 1 ∧
    (hadd t a b = rhadd t a b ↔ (a ^^^ b).getLsbD 0 = false) ∧
    min (intOf t a) (intOf t b) ≤ intOf t (hadd t a b) ∧ intOf t (rhadd t a b) ≤ max (intOf t a) (intOf t b) ∧
    intOf t (hadd t a b) + intOf t (rhadd t a b) = intOf t a + intOf t b ∧
    ((intOf t a + intOf t b) % 2 = 1 →
      2 * intOf t (rhadd t a b) = intOf t a + intOf t b + 1 ∧
      2 * intOf t (hadd t a b) = intOf t a + intOf t b - 1) ∧
    hsub t a a = 0 ∧
    2 * (hsub .signed a b).toInt + (if (a ^^^ b).getLsbD 0 then 1 else 0) = a.toInt - b.toInt

/-- Round trips of widening and narrowing, for every half-width and every full-width lane. Rests on 42_widen_narrow.md
section 4, properties a model can check. The spec marks the sentence as an inference of its own ([derived]). -/
def Obligations.NarrowingUndoesWidening : Prop :=
  ∀ (w : Width), w ≠ .w8 →
    (∀ x : BitVec (w.bits / 2),
      (∀ t : Sign, narrow (w.bits / 2) (extend t w.bits x) = x ∧ narrowSat t (w.bits / 2) (extend t w.bits x) = x) ∧
      narrowSatun (w.bits / 2) (extend .signed w.bits x) = if x.toInt < 0 then 0 else x) ∧
    ∀ v : BitVec w.bits,
      (∀ t : Sign, laneMin t (w.bits / 2) ≤ intOf t v → intOf t v ≤ laneMax t (w.bits / 2) →
        narrowSat t (w.bits / 2) v = narrow (w.bits / 2) v) ∧
      extend .signed w.bits (narrowSat .signed (w.bits / 2) v) =
        truncTo w.bits (clamp v.toInt (laneMin .signed (w.bits / 2)) (laneMax .signed (w.bits / 2)))

/-- Truncation and saturation can agree on a value out of the half-width range, against one clause of the spec's
properties (log 12). Rests on 42_widen_narrow.md sections 3 and 4, notes/assumptions/12.md. The spec marks the
properties as inferences of its own ([derived]); this statement refutes one clause of them. -/
def Obligations.NarrowingsMayAgreeOutOfRange : Prop :=
  ∀ (w : Width), w ≠ .w8 → ∀ t : Sign, ∃ v : BitVec w.bits,
    laneMax t (w.bits / 2) < intOf t v ∧ narrowSat t (w.bits / 2) v = narrow (w.bits / 2) v

/-- Extract and insert undo each other, for every layout and all valid indices. Rests on 43_lane_access.md section 4,
properties a model can check. The spec marks the sentence as an inference of its own ([derived]). -/
def Obligations.ExtractAfterInsertReadsWhatWasInserted : Prop :=
  ∀ (q : RegSize) (t u : Sign) (w : Width) (s s₁ : State),
    s.inputs.idx.toNat < laneCount q w.bits → exec (.ofInsertLane q t w) s = .next s₁ →
    DrivesScalar s₁.feedback (exec (.ofExtractLane q .unsigned w) s₁.feedback)
      ((s.inputs.s.setWidth w.bits).setWidth 64) ∧
    (∀ j : LaneIndex, j ≠ s.inputs.idx → j.toNat < laneCount q w.bits →
      ∃ v : Scalar,
        DrivesScalar (s.present { s.inputs with idx := j })
          (exec (.ofExtractLane q u w) (s.present { s.inputs with idx := j })) v ∧
        DrivesScalar (s₁.present { s₁.feedback.inputs with idx := j })
          (exec (.ofExtractLane q u w) (s₁.present { s₁.feedback.inputs with idx := j })) v) ∧
    ((s.inputs.s.setWidth w.bits : BitVec w.bits) = lane w.bits s.inputs.a s.inputs.idx.toNat →
      s₁.outputs.r = cut q s.inputs.a) ∧
    ∀ v : Scalar,
      resultOf (exec (.ofInsertLane q t w) (s₁.present { s₁.feedback.inputs with s := v })) =
        resultOf (exec (.ofInsertLane q t w) (s.present { s.inputs with s := v }))

/-- Relations between tbl, tbx and tables of fewer registers. Rests on 44_table_lookup.md section 3, properties a model
can check. The spec marks the sentence as an inference of its own ([derived]). -/
def Obligations.TableLookupsOfDifferentSizesAgree : Prop :=
  ∀ (q : RegSize) (t : Sign) (s : State),
    (∀ n : TableCount, s.inputs.b = 0 → exec (.ofTbl n q t) s = exec (.ofTbx n q t) s) ∧
    (∀ (m n : TableCount) (k : Nat) (s₁ s₂ : State), m.count < n.count → k < byteCount q →
      (lane 8 s.inputs.a k).toNat < m.count * byteCount q →
      exec (.ofTbl m q t) s = .next s₁ → exec (.ofTbl n q t) s = .next s₂ →
      lane 8 s₁.outputs.r k = lane 8 s₂.outputs.r k) ∧
    (∀ (n : TableCount) (k : Nat) (s₁ : State), k < byteCount q →
      n.count * byteCount q ≤ (lane 8 s.inputs.a k).toNat → exec (.ofTbx n q t) s = .next s₁ →
      lane 8 s₁.outputs.r k = lane 8 s.inputs.b k) ∧
    ∀ p : Equiv.Perm (Fin (byteCount q)),
      (∀ k : Fin (byteCount q), (lane 8 s.inputs.a k).toNat = p k) →
      DrivesLanes (byteCount q) 8 s (exec (.ofTbl .one q t) s) fun k =>
        if h : k < byteCount q then lane 8 s.inputs.t0 (p ⟨k, h⟩) else 0

/-- Lane k of width 2W is lanes 2k+1 and 2k of width W, and byte j is bits 8j+7 to 8j. Rests on 20_memory.md section 2,
mixed-width view. The spec marks the sentence as an inference of its own ([derived]). -/
def Obligations.WideLanesArePairsOfNarrowLanes : Prop :=
  (∀ (w : Nat) (v : Vec) (k : Nat),
      (lane (2 * w) v k).toNat = (lane w v (2 * k + 1)).toNat * 2 ^ w + (lane w v (2 * k)).toNat) ∧
    (∀ (v : Vec) (j b : Nat), b < 8 → (lane 8 v j).getLsbD b = v.getLsbD (8 * j + b)) ∧
    ∀ (v : Vec) (k : Nat), (lane 16 v k).setWidth 8 = lane 8 v (2 * k)
end

