-- ==== Sys2Proof/Laws/PerInstr.lean ====
section
/-! SUPPORT. For every command, one lemma: the word the encoder writes for it matches a row of the table of legal words
(30_encoding.md rule R63). -/

namespace Sys2Proof

/-- The command is well formed and its word's fields are legal. -/
def Laws.LegalWord.Statement (i : Instr) : Prop :=
  i.wf = true ∧ (Fields.ofWord (encode i)).legal = true

theorem Laws.LegalWord.satAddS8 : Laws.LegalWord.Statement .satAddS8 := ⟨rfl, rfl⟩
theorem Laws.LegalWord.satAddS16 : Laws.LegalWord.Statement .satAddS16 := ⟨rfl, rfl⟩
theorem Laws.LegalWord.satAddS32 : Laws.LegalWord.Statement .satAddS32 := ⟨rfl, rfl⟩
theorem Laws.LegalWord.satAddS64 : Laws.LegalWord.Statement .satAddS64 := ⟨rfl, rfl⟩
theorem Laws.LegalWord.satAddU8 : Laws.LegalWord.Statement .satAddU8 := ⟨rfl, rfl⟩
theorem Laws.LegalWord.satAddU16 : Laws.LegalWord.Statement .satAddU16 := ⟨rfl, rfl⟩
theorem Laws.LegalWord.satAddU32 : Laws.LegalWord.Statement .satAddU32 := ⟨rfl, rfl⟩
theorem Laws.LegalWord.satAddU64 : Laws.LegalWord.Statement .satAddU64 := ⟨rfl, rfl⟩
theorem Laws.LegalWord.satAddQS8 : Laws.LegalWord.Statement .satAddQS8 := ⟨rfl, rfl⟩
theorem Laws.LegalWord.satAddQS16 : Laws.LegalWord.Statement .satAddQS16 := ⟨rfl, rfl⟩
theorem Laws.LegalWord.satAddQS32 : Laws.LegalWord.Statement .satAddQS32 := ⟨rfl, rfl⟩
theorem Laws.LegalWord.satAddQS64 : Laws.LegalWord.Statement .satAddQS64 := ⟨rfl, rfl⟩
theorem Laws.LegalWord.satAddQU8 : Laws.LegalWord.Statement .satAddQU8 := ⟨rfl, rfl⟩
theorem Laws.LegalWord.satAddQU16 : Laws.LegalWord.Statement .satAddQU16 := ⟨rfl, rfl⟩
theorem Laws.LegalWord.satAddQU32 : Laws.LegalWord.Statement .satAddQU32 := ⟨rfl, rfl⟩
theorem Laws.LegalWord.satAddQU64 : Laws.LegalWord.Statement .satAddQU64 := ⟨rfl, rfl⟩
theorem Laws.LegalWord.satSubS8 : Laws.LegalWord.Statement .satSubS8 := ⟨rfl, rfl⟩
theorem Laws.LegalWord.satSubS16 : Laws.LegalWord.Statement .satSubS16 := ⟨rfl, rfl⟩
theorem Laws.LegalWord.satSubS32 : Laws.LegalWord.Statement .satSubS32 := ⟨rfl, rfl⟩
theorem Laws.LegalWord.satSubS64 : Laws.LegalWord.Statement .satSubS64 := ⟨rfl, rfl⟩
theorem Laws.LegalWord.satSubU8 : Laws.LegalWord.Statement .satSubU8 := ⟨rfl, rfl⟩
theorem Laws.LegalWord.satSubU16 : Laws.LegalWord.Statement .satSubU16 := ⟨rfl, rfl⟩
theorem Laws.LegalWord.satSubU32 : Laws.LegalWord.Statement .satSubU32 := ⟨rfl, rfl⟩
theorem Laws.LegalWord.satSubU64 : Laws.LegalWord.Statement .satSubU64 := ⟨rfl, rfl⟩
theorem Laws.LegalWord.satSubQS8 : Laws.LegalWord.Statement .satSubQS8 := ⟨rfl, rfl⟩
theorem Laws.LegalWord.satSubQS16 : Laws.LegalWord.Statement .satSubQS16 := ⟨rfl, rfl⟩
theorem Laws.LegalWord.satSubQS32 : Laws.LegalWord.Statement .satSubQS32 := ⟨rfl, rfl⟩
theorem Laws.LegalWord.satSubQS64 : Laws.LegalWord.Statement .satSubQS64 := ⟨rfl, rfl⟩
theorem Laws.LegalWord.satSubQU8 : Laws.LegalWord.Statement .satSubQU8 := ⟨rfl, rfl⟩
theorem Laws.LegalWord.satSubQU16 : Laws.LegalWord.Statement .satSubQU16 := ⟨rfl, rfl⟩
theorem Laws.LegalWord.satSubQU32 : Laws.LegalWord.Statement .satSubQU32 := ⟨rfl, rfl⟩
theorem Laws.LegalWord.satSubQU64 : Laws.LegalWord.Statement .satSubQU64 := ⟨rfl, rfl⟩
theorem Laws.LegalWord.satAbsS8 : Laws.LegalWord.Statement .satAbsS8 := ⟨rfl, rfl⟩
theorem Laws.LegalWord.satAbsS16 : Laws.LegalWord.Statement .satAbsS16 := ⟨rfl, rfl⟩
theorem Laws.LegalWord.satAbsS32 : Laws.LegalWord.Statement .satAbsS32 := ⟨rfl, rfl⟩
theorem Laws.LegalWord.satAbsS64 : Laws.LegalWord.Statement .satAbsS64 := ⟨rfl, rfl⟩
theorem Laws.LegalWord.satAbsU8 : Laws.LegalWord.Statement .satAbsU8 := ⟨rfl, rfl⟩
theorem Laws.LegalWord.satAbsU16 : Laws.LegalWord.Statement .satAbsU16 := ⟨rfl, rfl⟩
theorem Laws.LegalWord.satAbsU32 : Laws.LegalWord.Statement .satAbsU32 := ⟨rfl, rfl⟩
theorem Laws.LegalWord.satAbsU64 : Laws.LegalWord.Statement .satAbsU64 := ⟨rfl, rfl⟩
theorem Laws.LegalWord.satAbsQS8 : Laws.LegalWord.Statement .satAbsQS8 := ⟨rfl, rfl⟩
theorem Laws.LegalWord.satAbsQS16 : Laws.LegalWord.Statement .satAbsQS16 := ⟨rfl, rfl⟩
theorem Laws.LegalWord.satAbsQS32 : Laws.LegalWord.Statement .satAbsQS32 := ⟨rfl, rfl⟩
theorem Laws.LegalWord.satAbsQS64 : Laws.LegalWord.Statement .satAbsQS64 := ⟨rfl, rfl⟩
theorem Laws.LegalWord.satAbsQU8 : Laws.LegalWord.Statement .satAbsQU8 := ⟨rfl, rfl⟩
theorem Laws.LegalWord.satAbsQU16 : Laws.LegalWord.Statement .satAbsQU16 := ⟨rfl, rfl⟩
theorem Laws.LegalWord.satAbsQU32 : Laws.LegalWord.Statement .satAbsQU32 := ⟨rfl, rfl⟩
theorem Laws.LegalWord.satAbsQU64 : Laws.LegalWord.Statement .satAbsQU64 := ⟨rfl, rfl⟩
theorem Laws.LegalWord.satNegS8 : Laws.LegalWord.Statement .satNegS8 := ⟨rfl, rfl⟩
theorem Laws.LegalWord.satNegS16 : Laws.LegalWord.Statement .satNegS16 := ⟨rfl, rfl⟩
theorem Laws.LegalWord.satNegS32 : Laws.LegalWord.Statement .satNegS32 := ⟨rfl, rfl⟩
theorem Laws.LegalWord.satNegS64 : Laws.LegalWord.Statement .satNegS64 := ⟨rfl, rfl⟩
theorem Laws.LegalWord.satNegU8 : Laws.LegalWord.Statement .satNegU8 := ⟨rfl, rfl⟩
theorem Laws.LegalWord.satNegU16 : Laws.LegalWord.Statement .satNegU16 := ⟨rfl, rfl⟩
theorem Laws.LegalWord.satNegU32 : Laws.LegalWord.Statement .satNegU32 := ⟨rfl, rfl⟩
theorem Laws.LegalWord.satNegU64 : Laws.LegalWord.Statement .satNegU64 := ⟨rfl, rfl⟩
theorem Laws.LegalWord.satNegQS8 : Laws.LegalWord.Statement .satNegQS8 := ⟨rfl, rfl⟩
theorem Laws.LegalWord.satNegQS16 : Laws.LegalWord.Statement .satNegQS16 := ⟨rfl, rfl⟩
theorem Laws.LegalWord.satNegQS32 : Laws.LegalWord.Statement .satNegQS32 := ⟨rfl, rfl⟩
theorem Laws.LegalWord.satNegQS64 : Laws.LegalWord.Statement .satNegQS64 := ⟨rfl, rfl⟩
theorem Laws.LegalWord.satNegQU8 : Laws.LegalWord.Statement .satNegQU8 := ⟨rfl, rfl⟩
theorem Laws.LegalWord.satNegQU16 : Laws.LegalWord.Statement .satNegQU16 := ⟨rfl, rfl⟩
theorem Laws.LegalWord.satNegQU32 : Laws.LegalWord.Statement .satNegQU32 := ⟨rfl, rfl⟩
theorem Laws.LegalWord.satNegQU64 : Laws.LegalWord.Statement .satNegQU64 := ⟨rfl, rfl⟩
theorem Laws.LegalWord.haddS8 : Laws.LegalWord.Statement .haddS8 := ⟨rfl, rfl⟩
theorem Laws.LegalWord.haddS16 : Laws.LegalWord.Statement .haddS16 := ⟨rfl, rfl⟩
theorem Laws.LegalWord.haddS32 : Laws.LegalWord.Statement .haddS32 := ⟨rfl, rfl⟩
theorem Laws.LegalWord.haddS64 : Laws.LegalWord.Statement .haddS64 := ⟨rfl, rfl⟩
theorem Laws.LegalWord.haddU8 : Laws.LegalWord.Statement .haddU8 := ⟨rfl, rfl⟩
theorem Laws.LegalWord.haddU16 : Laws.LegalWord.Statement .haddU16 := ⟨rfl, rfl⟩
theorem Laws.LegalWord.haddU32 : Laws.LegalWord.Statement .haddU32 := ⟨rfl, rfl⟩
theorem Laws.LegalWord.haddU64 : Laws.LegalWord.Statement .haddU64 := ⟨rfl, rfl⟩
theorem Laws.LegalWord.haddQS8 : Laws.LegalWord.Statement .haddQS8 := ⟨rfl, rfl⟩
theorem Laws.LegalWord.haddQS16 : Laws.LegalWord.Statement .haddQS16 := ⟨rfl, rfl⟩
theorem Laws.LegalWord.haddQS32 : Laws.LegalWord.Statement .haddQS32 := ⟨rfl, rfl⟩
theorem Laws.LegalWord.haddQS64 : Laws.LegalWord.Statement .haddQS64 := ⟨rfl, rfl⟩
theorem Laws.LegalWord.haddQU8 : Laws.LegalWord.Statement .haddQU8 := ⟨rfl, rfl⟩
theorem Laws.LegalWord.haddQU16 : Laws.LegalWord.Statement .haddQU16 := ⟨rfl, rfl⟩
theorem Laws.LegalWord.haddQU32 : Laws.LegalWord.Statement .haddQU32 := ⟨rfl, rfl⟩
theorem Laws.LegalWord.haddQU64 : Laws.LegalWord.Statement .haddQU64 := ⟨rfl, rfl⟩
theorem Laws.LegalWord.rhaddS8 : Laws.LegalWord.Statement .rhaddS8 := ⟨rfl, rfl⟩
theorem Laws.LegalWord.rhaddS16 : Laws.LegalWord.Statement .rhaddS16 := ⟨rfl, rfl⟩
theorem Laws.LegalWord.rhaddS32 : Laws.LegalWord.Statement .rhaddS32 := ⟨rfl, rfl⟩
theorem Laws.LegalWord.rhaddS64 : Laws.LegalWord.Statement .rhaddS64 := ⟨rfl, rfl⟩
theorem Laws.LegalWord.rhaddU8 : Laws.LegalWord.Statement .rhaddU8 := ⟨rfl, rfl⟩
theorem Laws.LegalWord.rhaddU16 : Laws.LegalWord.Statement .rhaddU16 := ⟨rfl, rfl⟩
theorem Laws.LegalWord.rhaddU32 : Laws.LegalWord.Statement .rhaddU32 := ⟨rfl, rfl⟩
theorem Laws.LegalWord.rhaddU64 : Laws.LegalWord.Statement .rhaddU64 := ⟨rfl, rfl⟩
theorem Laws.LegalWord.rhaddQS8 : Laws.LegalWord.Statement .rhaddQS8 := ⟨rfl, rfl⟩
theorem Laws.LegalWord.rhaddQS16 : Laws.LegalWord.Statement .rhaddQS16 := ⟨rfl, rfl⟩
theorem Laws.LegalWord.rhaddQS32 : Laws.LegalWord.Statement .rhaddQS32 := ⟨rfl, rfl⟩
theorem Laws.LegalWord.rhaddQS64 : Laws.LegalWord.Statement .rhaddQS64 := ⟨rfl, rfl⟩
theorem Laws.LegalWord.rhaddQU8 : Laws.LegalWord.Statement .rhaddQU8 := ⟨rfl, rfl⟩
theorem Laws.LegalWord.rhaddQU16 : Laws.LegalWord.Statement .rhaddQU16 := ⟨rfl, rfl⟩
theorem Laws.LegalWord.rhaddQU32 : Laws.LegalWord.Statement .rhaddQU32 := ⟨rfl, rfl⟩
theorem Laws.LegalWord.rhaddQU64 : Laws.LegalWord.Statement .rhaddQU64 := ⟨rfl, rfl⟩
theorem Laws.LegalWord.hsubS8 : Laws.LegalWord.Statement .hsubS8 := ⟨rfl, rfl⟩
theorem Laws.LegalWord.hsubS16 : Laws.LegalWord.Statement .hsubS16 := ⟨rfl, rfl⟩
theorem Laws.LegalWord.hsubS32 : Laws.LegalWord.Statement .hsubS32 := ⟨rfl, rfl⟩
theorem Laws.LegalWord.hsubS64 : Laws.LegalWord.Statement .hsubS64 := ⟨rfl, rfl⟩
theorem Laws.LegalWord.hsubU8 : Laws.LegalWord.Statement .hsubU8 := ⟨rfl, rfl⟩
theorem Laws.LegalWord.hsubU16 : Laws.LegalWord.Statement .hsubU16 := ⟨rfl, rfl⟩
theorem Laws.LegalWord.hsubU32 : Laws.LegalWord.Statement .hsubU32 := ⟨rfl, rfl⟩
theorem Laws.LegalWord.hsubU64 : Laws.LegalWord.Statement .hsubU64 := ⟨rfl, rfl⟩
theorem Laws.LegalWord.hsubQS8 : Laws.LegalWord.Statement .hsubQS8 := ⟨rfl, rfl⟩
theorem Laws.LegalWord.hsubQS16 : Laws.LegalWord.Statement .hsubQS16 := ⟨rfl, rfl⟩
theorem Laws.LegalWord.hsubQS32 : Laws.LegalWord.Statement .hsubQS32 := ⟨rfl, rfl⟩
theorem Laws.LegalWord.hsubQS64 : Laws.LegalWord.Statement .hsubQS64 := ⟨rfl, rfl⟩
theorem Laws.LegalWord.hsubQU8 : Laws.LegalWord.Statement .hsubQU8 := ⟨rfl, rfl⟩
theorem Laws.LegalWord.hsubQU16 : Laws.LegalWord.Statement .hsubQU16 := ⟨rfl, rfl⟩
theorem Laws.LegalWord.hsubQU32 : Laws.LegalWord.Statement .hsubQU32 := ⟨rfl, rfl⟩
theorem Laws.LegalWord.hsubQU64 : Laws.LegalWord.Statement .hsubQU64 := ⟨rfl, rfl⟩
theorem Laws.LegalWord.narrowS16 : Laws.LegalWord.Statement .narrowS16 := ⟨rfl, rfl⟩
theorem Laws.LegalWord.narrowS32 : Laws.LegalWord.Statement .narrowS32 := ⟨rfl, rfl⟩
theorem Laws.LegalWord.narrowS64 : Laws.LegalWord.Statement .narrowS64 := ⟨rfl, rfl⟩
theorem Laws.LegalWord.narrowU16 : Laws.LegalWord.Statement .narrowU16 := ⟨rfl, rfl⟩
theorem Laws.LegalWord.narrowU32 : Laws.LegalWord.Statement .narrowU32 := ⟨rfl, rfl⟩
theorem Laws.LegalWord.narrowU64 : Laws.LegalWord.Statement .narrowU64 := ⟨rfl, rfl⟩
theorem Laws.LegalWord.narrowSatS16 : Laws.LegalWord.Statement .narrowSatS16 := ⟨rfl, rfl⟩
theorem Laws.LegalWord.narrowSatS32 : Laws.LegalWord.Statement .narrowSatS32 := ⟨rfl, rfl⟩
theorem Laws.LegalWord.narrowSatS64 : Laws.LegalWord.Statement .narrowSatS64 := ⟨rfl, rfl⟩
theorem Laws.LegalWord.narrowSatU16 : Laws.LegalWord.Statement .narrowSatU16 := ⟨rfl, rfl⟩
theorem Laws.LegalWord.narrowSatU32 : Laws.LegalWord.Statement .narrowSatU32 := ⟨rfl, rfl⟩
theorem Laws.LegalWord.narrowSatU64 : Laws.LegalWord.Statement .narrowSatU64 := ⟨rfl, rfl⟩
theorem Laws.LegalWord.narrowSatunS16 : Laws.LegalWord.Statement .narrowSatunS16 := ⟨rfl, rfl⟩
theorem Laws.LegalWord.narrowSatunS32 : Laws.LegalWord.Statement .narrowSatunS32 := ⟨rfl, rfl⟩
theorem Laws.LegalWord.narrowSatunS64 : Laws.LegalWord.Statement .narrowSatunS64 := ⟨rfl, rfl⟩
theorem Laws.LegalWord.widenS8 : Laws.LegalWord.Statement .widenS8 := ⟨rfl, rfl⟩
theorem Laws.LegalWord.widenS16 : Laws.LegalWord.Statement .widenS16 := ⟨rfl, rfl⟩
theorem Laws.LegalWord.widenS32 : Laws.LegalWord.Statement .widenS32 := ⟨rfl, rfl⟩
theorem Laws.LegalWord.widenU8 : Laws.LegalWord.Statement .widenU8 := ⟨rfl, rfl⟩
theorem Laws.LegalWord.widenU16 : Laws.LegalWord.Statement .widenU16 := ⟨rfl, rfl⟩
theorem Laws.LegalWord.widenU32 : Laws.LegalWord.Statement .widenU32 := ⟨rfl, rfl⟩
theorem Laws.LegalWord.extractLaneS8 : Laws.LegalWord.Statement .extractLaneS8 := ⟨rfl, rfl⟩
theorem Laws.LegalWord.extractLaneS16 : Laws.LegalWord.Statement .extractLaneS16 := ⟨rfl, rfl⟩
theorem Laws.LegalWord.extractLaneS32 : Laws.LegalWord.Statement .extractLaneS32 := ⟨rfl, rfl⟩
theorem Laws.LegalWord.extractLaneS64 : Laws.LegalWord.Statement .extractLaneS64 := ⟨rfl, rfl⟩
theorem Laws.LegalWord.extractLaneU8 : Laws.LegalWord.Statement .extractLaneU8 := ⟨rfl, rfl⟩
theorem Laws.LegalWord.extractLaneU16 : Laws.LegalWord.Statement .extractLaneU16 := ⟨rfl, rfl⟩
theorem Laws.LegalWord.extractLaneU32 : Laws.LegalWord.Statement .extractLaneU32 := ⟨rfl, rfl⟩
theorem Laws.LegalWord.extractLaneU64 : Laws.LegalWord.Statement .extractLaneU64 := ⟨rfl, rfl⟩
theorem Laws.LegalWord.extractLaneQS8 : Laws.LegalWord.Statement .extractLaneQS8 := ⟨rfl, rfl⟩
theorem Laws.LegalWord.extractLaneQS16 : Laws.LegalWord.Statement .extractLaneQS16 := ⟨rfl, rfl⟩
theorem Laws.LegalWord.extractLaneQS32 : Laws.LegalWord.Statement .extractLaneQS32 := ⟨rfl, rfl⟩
theorem Laws.LegalWord.extractLaneQS64 : Laws.LegalWord.Statement .extractLaneQS64 := ⟨rfl, rfl⟩
theorem Laws.LegalWord.extractLaneQU8 : Laws.LegalWord.Statement .extractLaneQU8 := ⟨rfl, rfl⟩
theorem Laws.LegalWord.extractLaneQU16 : Laws.LegalWord.Statement .extractLaneQU16 := ⟨rfl, rfl⟩
theorem Laws.LegalWord.extractLaneQU32 : Laws.LegalWord.Statement .extractLaneQU32 := ⟨rfl, rfl⟩
theorem Laws.LegalWord.extractLaneQU64 : Laws.LegalWord.Statement .extractLaneQU64 := ⟨rfl, rfl⟩
theorem Laws.LegalWord.insertLaneS8 : Laws.LegalWord.Statement .insertLaneS8 := ⟨rfl, rfl⟩
theorem Laws.LegalWord.insertLaneS16 : Laws.LegalWord.Statement .insertLaneS16 := ⟨rfl, rfl⟩
theorem Laws.LegalWord.insertLaneS32 : Laws.LegalWord.Statement .insertLaneS32 := ⟨rfl, rfl⟩
theorem Laws.LegalWord.insertLaneS64 : Laws.LegalWord.Statement .insertLaneS64 := ⟨rfl, rfl⟩
theorem Laws.LegalWord.insertLaneU8 : Laws.LegalWord.Statement .insertLaneU8 := ⟨rfl, rfl⟩
theorem Laws.LegalWord.insertLaneU16 : Laws.LegalWord.Statement .insertLaneU16 := ⟨rfl, rfl⟩
theorem Laws.LegalWord.insertLaneU32 : Laws.LegalWord.Statement .insertLaneU32 := ⟨rfl, rfl⟩
theorem Laws.LegalWord.insertLaneU64 : Laws.LegalWord.Statement .insertLaneU64 := ⟨rfl, rfl⟩
theorem Laws.LegalWord.insertLaneQS8 : Laws.LegalWord.Statement .insertLaneQS8 := ⟨rfl, rfl⟩
theorem Laws.LegalWord.insertLaneQS16 : Laws.LegalWord.Statement .insertLaneQS16 := ⟨rfl, rfl⟩
theorem Laws.LegalWord.insertLaneQS32 : Laws.LegalWord.Statement .insertLaneQS32 := ⟨rfl, rfl⟩
theorem Laws.LegalWord.insertLaneQS64 : Laws.LegalWord.Statement .insertLaneQS64 := ⟨rfl, rfl⟩
theorem Laws.LegalWord.insertLaneQU8 : Laws.LegalWord.Statement .insertLaneQU8 := ⟨rfl, rfl⟩
theorem Laws.LegalWord.insertLaneQU16 : Laws.LegalWord.Statement .insertLaneQU16 := ⟨rfl, rfl⟩
theorem Laws.LegalWord.insertLaneQU32 : Laws.LegalWord.Statement .insertLaneQU32 := ⟨rfl, rfl⟩
theorem Laws.LegalWord.insertLaneQU64 : Laws.LegalWord.Statement .insertLaneQU64 := ⟨rfl, rfl⟩
theorem Laws.LegalWord.tbl1S8 : Laws.LegalWord.Statement .tbl1S8 := ⟨rfl, rfl⟩
theorem Laws.LegalWord.tbl2S8 : Laws.LegalWord.Statement .tbl2S8 := ⟨rfl, rfl⟩
theorem Laws.LegalWord.tbl3S8 : Laws.LegalWord.Statement .tbl3S8 := ⟨rfl, rfl⟩
theorem Laws.LegalWord.tbl4S8 : Laws.LegalWord.Statement .tbl4S8 := ⟨rfl, rfl⟩
theorem Laws.LegalWord.tbl1U8 : Laws.LegalWord.Statement .tbl1U8 := ⟨rfl, rfl⟩
theorem Laws.LegalWord.tbl2U8 : Laws.LegalWord.Statement .tbl2U8 := ⟨rfl, rfl⟩
theorem Laws.LegalWord.tbl3U8 : Laws.LegalWord.Statement .tbl3U8 := ⟨rfl, rfl⟩
theorem Laws.LegalWord.tbl4U8 : Laws.LegalWord.Statement .tbl4U8 := ⟨rfl, rfl⟩
theorem Laws.LegalWord.tbl1QS8 : Laws.LegalWord.Statement .tbl1QS8 := ⟨rfl, rfl⟩
theorem Laws.LegalWord.tbl2QS8 : Laws.LegalWord.Statement .tbl2QS8 := ⟨rfl, rfl⟩
theorem Laws.LegalWord.tbl3QS8 : Laws.LegalWord.Statement .tbl3QS8 := ⟨rfl, rfl⟩
theorem Laws.LegalWord.tbl4QS8 : Laws.LegalWord.Statement .tbl4QS8 := ⟨rfl, rfl⟩
theorem Laws.LegalWord.tbl1QU8 : Laws.LegalWord.Statement .tbl1QU8 := ⟨rfl, rfl⟩
theorem Laws.LegalWord.tbl2QU8 : Laws.LegalWord.Statement .tbl2QU8 := ⟨rfl, rfl⟩
theorem Laws.LegalWord.tbl3QU8 : Laws.LegalWord.Statement .tbl3QU8 := ⟨rfl, rfl⟩
theorem Laws.LegalWord.tbl4QU8 : Laws.LegalWord.Statement .tbl4QU8 := ⟨rfl, rfl⟩
theorem Laws.LegalWord.tbx1S8 : Laws.LegalWord.Statement .tbx1S8 := ⟨rfl, rfl⟩
theorem Laws.LegalWord.tbx2S8 : Laws.LegalWord.Statement .tbx2S8 := ⟨rfl, rfl⟩
theorem Laws.LegalWord.tbx3S8 : Laws.LegalWord.Statement .tbx3S8 := ⟨rfl, rfl⟩
theorem Laws.LegalWord.tbx4S8 : Laws.LegalWord.Statement .tbx4S8 := ⟨rfl, rfl⟩
theorem Laws.LegalWord.tbx1U8 : Laws.LegalWord.Statement .tbx1U8 := ⟨rfl, rfl⟩
theorem Laws.LegalWord.tbx2U8 : Laws.LegalWord.Statement .tbx2U8 := ⟨rfl, rfl⟩
theorem Laws.LegalWord.tbx3U8 : Laws.LegalWord.Statement .tbx3U8 := ⟨rfl, rfl⟩
theorem Laws.LegalWord.tbx4U8 : Laws.LegalWord.Statement .tbx4U8 := ⟨rfl, rfl⟩
theorem Laws.LegalWord.tbx1QS8 : Laws.LegalWord.Statement .tbx1QS8 := ⟨rfl, rfl⟩
theorem Laws.LegalWord.tbx2QS8 : Laws.LegalWord.Statement .tbx2QS8 := ⟨rfl, rfl⟩
theorem Laws.LegalWord.tbx3QS8 : Laws.LegalWord.Statement .tbx3QS8 := ⟨rfl, rfl⟩
theorem Laws.LegalWord.tbx4QS8 : Laws.LegalWord.Statement .tbx4QS8 := ⟨rfl, rfl⟩
theorem Laws.LegalWord.tbx1QU8 : Laws.LegalWord.Statement .tbx1QU8 := ⟨rfl, rfl⟩
theorem Laws.LegalWord.tbx2QU8 : Laws.LegalWord.Statement .tbx2QU8 := ⟨rfl, rfl⟩
theorem Laws.LegalWord.tbx3QU8 : Laws.LegalWord.Statement .tbx3QU8 := ⟨rfl, rfl⟩
theorem Laws.LegalWord.tbx4QU8 : Laws.LegalWord.Statement .tbx4QU8 := ⟨rfl, rfl⟩
theorem Laws.LegalWord.qdS8 : Laws.LegalWord.Statement .qdS8 := ⟨rfl, rfl⟩
theorem Laws.LegalWord.qdS16 : Laws.LegalWord.Statement .qdS16 := ⟨rfl, rfl⟩
theorem Laws.LegalWord.qdS32 : Laws.LegalWord.Statement .qdS32 := ⟨rfl, rfl⟩
theorem Laws.LegalWord.qdS64 : Laws.LegalWord.Statement .qdS64 := ⟨rfl, rfl⟩
theorem Laws.LegalWord.qdQS8 : Laws.LegalWord.Statement .qdQS8 := ⟨rfl, rfl⟩
theorem Laws.LegalWord.qdQS16 : Laws.LegalWord.Statement .qdQS16 := ⟨rfl, rfl⟩
theorem Laws.LegalWord.qdQS32 : Laws.LegalWord.Statement .qdQS32 := ⟨rfl, rfl⟩
theorem Laws.LegalWord.qdQS64 : Laws.LegalWord.Statement .qdQS64 := ⟨rfl, rfl⟩

end Sys2Proof
end

