-- ==== Sys2Proof/Laws/Exec.lean ====
section
/-! SUPPORT. The meaning of a command read off its form, so that a proof about every command has sixteen cases, one per
operation. -/

namespace Sys2Proof.Machine

/-- What a command of the given form does. -/
def formExec (f : Form) (s : State) : Host.Outcome State Fault Refusal :=
  match f with
  | .satAdd q t w => binaryOp q w (satAdd t) s
  | .satSub q t w => binaryOp q w (satSub t) s
  | .satAbs q t w => unaryOp q w (satAbs t) s
  | .satNeg q t w => unaryOp q w (satNeg t) s
  | .hadd q t w => binaryOp q w (hadd t) s
  | .rhadd q t w => binaryOp q w (rhadd t) s
  | .hsub q t w => binaryOp q w (hsub t) s
  | .narrow _ w => narrowingOp w (narrow (w.bits / 2)) s
  | .narrowSat t w => narrowingOp w (narrowSat t (w.bits / 2)) s
  | .narrowSatun w => narrowingOp w (narrowSatun (w.bits / 2)) s
  | .widen t w => wideningOp w (extend t (2 * w.bits)) s
  | .extractLane q t w => extractLane q t w s
  | .insertLane q _ w => insertLane q w s
  | .tbl n q _ => tbl n q s
  | .tbx n q _ => tbx n q s
  | .qd q w => unaryOp q w qd s

/-- Every command does what its form says. -/
theorem exec_eq_formExec (i : Instr) (s : State) : exec i s = formExec i.form s := by
  cases i <;> rfl

/-- A command is the command of its form. -/
theorem instr_form (i : Instr) : i.form.instr = some i := by
  cases i <;> rfl

/-- The command of a form has that form. -/
theorem form_instr {f : Form} {i : Instr} (h : f.instr = some i) : i.form = f := by
  cases f with
  | satAdd q t w => cases h; cases q <;> cases t <;> cases w <;> rfl
  | satSub q t w => cases h; cases q <;> cases t <;> cases w <;> rfl
  | satAbs q t w => cases h; cases q <;> cases t <;> cases w <;> rfl
  | satNeg q t w => cases h; cases q <;> cases t <;> cases w <;> rfl
  | hadd q t w => cases h; cases q <;> cases t <;> cases w <;> rfl
  | rhadd q t w => cases h; cases q <;> cases t <;> cases w <;> rfl
  | hsub q t w => cases h; cases q <;> cases t <;> cases w <;> rfl
  | extractLane q t w => cases h; cases q <;> cases t <;> cases w <;> rfl
  | insertLane q t w => cases h; cases q <;> cases t <;> cases w <;> rfl
  | tbl n q t => cases h; cases n <;> cases q <;> cases t <;> rfl
  | tbx n q t => cases h; cases n <;> cases q <;> cases t <;> rfl
  | qd q w => cases h; cases q <;> cases w <;> rfl
  | narrow t w => cases t <;> cases w <;> cases h <;> rfl
  | narrowSat t w => cases t <;> cases w <;> cases h <;> rfl
  | narrowSatun w => cases w <;> cases h <;> rfl
  | widen t w => cases t <;> cases w <;> cases h <;> rfl

/-- What the decoder answers is the command of the form its fields name. -/
theorem decode_eq_command_iff {c : Command} {i : Instr} :
    decode c = .command i ↔ (Fields.ofWord c).form.bind Form.instr = some i := by
  unfold decode
  cases (Fields.ofWord c).form.bind Form.instr with
  | none => exact ⟨fun h => (nomatch h), fun h => (nomatch h)⟩
  | some j =>
    constructor
    · intro h
      cases h
      rfl
    · intro h
      cases h
      rfl

end Sys2Proof.Machine
end

