-- ==== Sys2Proof/Laws/Lanes.lean ====
section
/-! SUPPORT. What reading a lane of a packed register value gives, and when two register values are equal. -/

namespace Sys2Proof.Machine

/-- Bit `j` of lane `k` is bit `k*w + j` of the register value. -/
theorem lane_getLsbD (w : Nat) (v : Vec) (k j : Nat) :
    (lane w v k).getLsbD j = (decide (j < w) && v.getLsbD (k * w + j)) := by
  simp [lane, BitVec.getLsbD_extractLsb']

/-- Bit `j` of a packed register value is bit `j % w` of the lane `j / w` it lies in, or zero above the lanes. -/
theorem pack_getLsbD (w n : Nat) (f : Nat → BitVec w) (j : Nat) :
    (pack w n f).getLsbD j = (decide (j < 128 ∧ j < n * w) && (f (j / w)).getLsbD (j % w)) := by
  induction n with
  | zero => simp [pack]
  | succ n ih =>
    rw [pack, BitVec.getLsbD_or, ih, BitVec.getLsbD_shiftLeft, BitVec.getLsbD_setWidth, Nat.succ_mul]
    by_cases hj : j < 128
    · by_cases hlow : j < n * w
      · simp [hj, hlow, Nat.lt_add_right]
      · by_cases hhigh : j < n * w + w
        · have hw : 0 < w := by omega
          have hdiv : j / w = n := by
            rw [Nat.div_eq_iff hw]
            constructor
            · exact Nat.not_lt.mp hlow
            · omega
          have hmod : j % w = j - n * w := by
            have := Nat.div_add_mod j w
            rw [hdiv, Nat.mul_comm] at this
            omega
          have hsmall : j - n * w < 128 := by omega
          simp [hj, hlow, hhigh, hdiv, hmod, hsmall]
        · have hge : w ≤ j - n * w := by omega
          simp [hj, hlow, hhigh, BitVec.getLsbD_of_ge _ _ hge]
    · simp [hj]

/-- Lane `k` of a packed register value is what was packed there, as long as the lanes fit a register. -/
theorem lane_pack {w n k : Nat} (f : Nat → BitVec w) (hk : k < n) (hfit : n * w ≤ 128) :
    lane w (pack w n f) k = f k := by
  apply BitVec.eq_of_getLsbD_eq
  intro j hj
  have hw : 0 < w := by omega
  have hle : (k + 1) * w ≤ n * w := Nat.mul_le_mul_right w hk
  rw [Nat.succ_mul] at hle
  have hdiv : (k * w + j) / w = k := by
    rw [Nat.mul_comm, Nat.mul_add_div hw, Nat.div_eq_of_lt hj, Nat.add_zero]
  have hmod : (k * w + j) % w = j := by
    rw [Nat.mul_comm, Nat.mul_add_mod, Nat.mod_eq_of_lt hj]
  rw [lane_getLsbD, pack_getLsbD, hdiv, hmod]
  have h1 : k * w + j < 128 := by omega
  have h2 : k * w + j < n * w := by omega
  simp [hj, h1, h2]

/-- A packed register value is zero above its lanes. -/
theorem pack_toNat_lt (w n : Nat) (f : Nat → BitVec w) : (pack w n f).toNat < 2 ^ (n * w) := by
  apply Nat.lt_pow_two_of_testBit
  intro j hj
  have h := pack_getLsbD w n f j
  rw [BitVec.getLsbD] at h
  rw [h]
  simp [Nat.not_lt.mpr hj]

/-- Packing depends on the first `n` lanes only. -/
theorem pack_congr {w n : Nat} {f g : Nat → BitVec w} (h : ∀ k, k < n → f k = g k) : pack w n f = pack w n g := by
  induction n with
  | zero => rfl
  | succ n ih =>
    rw [pack, pack, h n (Nat.lt_succ_self n), ih fun k hk => h k (Nat.lt_succ_of_lt hk)]

/-- Two register values that agree on `n` lanes and are zero above them are equal. -/
theorem eq_of_lanes {w n : Nat} {u v : Vec} (hw : 0 < w) (hu : u.toNat < 2 ^ (n * w)) (hv : v.toNat < 2 ^ (n * w))
    (h : ∀ k, k < n → lane w u k = lane w v k) : u = v := by
  apply BitVec.eq_of_getLsbD_eq
  intro j _
  by_cases hj : j < n * w
  · have hk : j / w < n := Nat.div_lt_of_lt_mul (by rwa [Nat.mul_comm])
    have hl := congrArg (fun l => l.getLsbD (j % w)) (h (j / w) hk)
    have hjw : j / w * w + j % w = j := by rw [Nat.mul_comm]; exact Nat.div_add_mod j w
    simp only [lane_getLsbD, Nat.mod_lt j hw, hjw, decide_true, Bool.true_and] at hl
    exact hl
  · have hle : 2 ^ (n * w) ≤ 2 ^ j := Nat.pow_le_pow_right (by decide) (Nat.not_lt.mp hj)
    rw [BitVec.getLsbD, BitVec.getLsbD, Nat.testBit_lt_two_pow (Nat.lt_of_lt_of_le hu hle),
      Nat.testBit_lt_two_pow (Nat.lt_of_lt_of_le hv hle)]

/-- The lanes of either register size fill it: they fit a port. -/
theorem laneCount_mul_le (q : RegSize) (w : Nat) : laneCount q w * w ≤ 128 := by
  refine Nat.le_trans (Nat.div_mul_le_self q.bits w) ?_
  cases q <;> decide

/-- The lanes of a register of size `q` are its `REGBITS(q)` bits exactly. -/
theorem laneCount_mul_bits (q : RegSize) (w : Width) : laneCount q w.bits * w.bits = q.bits := by
  cases q <;> cases w <;> rfl

end Sys2Proof.Machine
end

