-- ==== Sys2Proof/Laws/State.lean ====
section
/-! SUPPORT. One lemma per field for each update of the state, and what each state operation answers. -/

namespace Sys2Proof.Machine

@[simp] theorem present_inputs (s : State) (p : Inputs) : (s.present p).inputs = p := rfl

@[simp] theorem present_outputs (s : State) (p : Inputs) : (s.present p).outputs = s.outputs := rfl

@[simp] theorem present_present (s : State) (p p' : Inputs) : (s.present p).present p' = s.present p' := rfl

@[simp] theorem feedback_a (s : State) : s.feedback.inputs.a = s.outputs.r := rfl

@[simp] theorem feedback_b (s : State) : s.feedback.inputs.b = s.inputs.b := rfl

@[simp] theorem feedback_s (s : State) : s.feedback.inputs.s = s.inputs.s := rfl

@[simp] theorem feedback_idx (s : State) : s.feedback.inputs.idx = s.inputs.idx := rfl

@[simp] theorem feedback_outputs (s : State) : s.feedback.outputs = s.outputs := rfl

@[simp] theorem withFetchWord_cmd (s : State) (n w : Nat) :
    (s.withFetchWord n w).inputs.cmd = BitVec.ofNat 16 (w % 2 ^ n) := rfl

@[simp] theorem withFetchWord_a (s : State) (n w : Nat) : (s.withFetchWord n w).inputs.a = s.inputs.a := rfl

@[simp] theorem withFetchWord_b (s : State) (n w : Nat) : (s.withFetchWord n w).inputs.b = s.inputs.b := rfl

@[simp] theorem withFetchWord_t0 (s : State) (n w : Nat) : (s.withFetchWord n w).inputs.t0 = s.inputs.t0 := rfl

@[simp] theorem withFetchWord_t1 (s : State) (n w : Nat) : (s.withFetchWord n w).inputs.t1 = s.inputs.t1 := rfl

@[simp] theorem withFetchWord_t2 (s : State) (n w : Nat) : (s.withFetchWord n w).inputs.t2 = s.inputs.t2 := rfl

@[simp] theorem withFetchWord_t3 (s : State) (n w : Nat) : (s.withFetchWord n w).inputs.t3 = s.inputs.t3 := rfl

@[simp] theorem withFetchWord_s (s : State) (n w : Nat) : (s.withFetchWord n w).inputs.s = s.inputs.s := rfl

@[simp] theorem withFetchWord_idx (s : State) (n w : Nat) : (s.withFetchWord n w).inputs.idx = s.inputs.idx := rfl

@[simp] theorem withFetchWord_outputs (s : State) (n w : Nat) : (s.withFetchWord n w).outputs = s.outputs := rfl

/-- `driveR` answers exactly this next state. -/
theorem driveR_eq_next_iff (s t : State) (v : Vec) :
    s.driveR v = .next t ↔ t = { inputs := s.inputs, outputs := { r := v, x := 0 } } := by
  unfold State.driveR
  constructor
  · intro h
    cases h
    rfl
  · rintro rfl
    rfl

/-- `driveX` answers exactly this next state. -/
theorem driveX_eq_next_iff (s t : State) (v : Scalar) :
    s.driveX v = .next t ↔ t = { inputs := s.inputs, outputs := { r := 0, x := v } } := by
  unfold State.driveX
  constructor
  · intro h
    cases h
    rfl
  · rintro rfl
    rfl

/-- `withLane` on an index below the lane count. -/
theorem withLane_of_lt {q : RegSize} {w : Nat} {s : State} {rest : Nat → Host.Outcome State Fault Refusal}
    (h : s.inputs.idx.toNat < laneCount q w) : withLane q w s rest = rest s.inputs.idx.toNat :=
  if_pos h

/-- `withLane` on an index that is not below the lane count. -/
theorem withLane_of_le {q : RegSize} {w : Nat} {s : State} {rest : Nat → Host.Outcome State Fault Refusal}
    (h : laneCount q w ≤ s.inputs.idx.toNat) :
    withLane q w s rest = .refused (.laneIndexOutOfRange s.inputs.idx (laneCount q w)) :=
  if_neg (Nat.not_lt.mpr h)

end Sys2Proof.Machine
end

