-- ==== Sys2Proof/Laws/Operands.lean ====
section
/-! SUPPORT. What each shared operation answers, in the terms of the statements. -/

namespace Sys2Proof.Machine

/-- Driving `R` with packed lanes that fit a register drives exactly those lanes. -/
theorem driveR_pack_drivesLanes {n w : Nat} (s : State) (f : Nat → BitVec w) (hfit : n * w ≤ 128) :
    DrivesLanes n w s (s.driveR (pack w n f)) f :=
  ⟨_, rfl, rfl, rfl, pack_toNat_lt w n f, fun _ hk => lane_pack f hk hfit⟩

/-- What `unaryOp` answers. -/
theorem unaryOp_drivesLanes (q : RegSize) (w : Width) (f : BitVec w.bits → BitVec w.bits) (s : State) :
    DrivesLanes (laneCount q w.bits) w.bits s (unaryOp q w f s) fun k => f (lane w.bits s.inputs.a k) :=
  driveR_pack_drivesLanes s _ (laneCount_mul_le q w.bits)

/-- What `binaryOp` answers. -/
theorem binaryOp_drivesLanes (q : RegSize) (w : Width) (f : BitVec w.bits → BitVec w.bits → BitVec w.bits) (s : State) :
    DrivesLanes (laneCount q w.bits) w.bits s (binaryOp q w f s)
      fun k => f (lane w.bits s.inputs.a k) (lane w.bits s.inputs.b k) :=
  driveR_pack_drivesLanes s _ (laneCount_mul_le q w.bits)

/-- What `narrowingOp` answers. -/
theorem narrowingOp_drivesLanes (w : Width) (f : BitVec w.bits → BitVec (w.bits / 2)) (s : State) :
    DrivesLanes (laneCount .full w.bits) (w.bits / 2) s (narrowingOp w f s) fun k => f (lane w.bits s.inputs.a k) :=
  driveR_pack_drivesLanes s _ (by cases w <;> decide)

/-- What `wideningOp` answers. -/
theorem wideningOp_drivesLanes (w : Width) (f : BitVec w.bits → BitVec (2 * w.bits)) (s : State) :
    DrivesLanes (laneCount .short w.bits) (2 * w.bits) s (wideningOp w f s) fun k => f (lane w.bits s.inputs.a k) :=
  driveR_pack_drivesLanes s _ (by cases w <;> decide)

/-- Driven lanes may be described by any function that agrees on them. -/
theorem DrivesLanes.congr {n w : Nat} {s : State} {o : Host.Outcome State Fault Refusal} {f g : Nat → BitVec w}
    (h : DrivesLanes n w s o f) (hfg : ∀ k, k < n → f k = g k) : DrivesLanes n w s o g := by
  obtain ⟨t, ho, hin, hx, hr, hl⟩ := h
  exact ⟨t, ho, hin, hx, hr, fun k hk => (hl k hk).trans (hfg k hk)⟩

/-- The lanes a command drives determine its whole next state. -/
theorem DrivesLanes.outcome_unique {n w : Nat} {s : State} {o o' : Host.Outcome State Fault Refusal} {f : Nat → BitVec w}
    (hw : 0 < w) (h : DrivesLanes n w s o f) (h' : DrivesLanes n w s o' f) : o = o' := by
  obtain ⟨⟨ti, tr, tx⟩, rfl, hin, hx, hr, hl⟩ := h
  obtain ⟨⟨ti', tr', tx'⟩, rfl, hin', hx', hr', hl'⟩ := h'
  have hv : tr = tr' := eq_of_lanes hw hr hr' fun k hk => (hl k hk).trans (hl' k hk).symm
  simp only at hin hin' hx hx'
  rw [hin, hin', hx, hx', hv]

end Sys2Proof.Machine
end

