-- ==== Sys2Proof/Laws/Primitives.lean ====
section
/-! SUPPORT. The primitives of 00_scope.md rule R18: ranges, and when cutting an integer to a lane loses nothing. -/

namespace Sys2Proof.Machine

/-- A lane's integer lies in the range of its type. -/
theorem laneMin_le_intOf (t : Sign) {w : Nat} (v : BitVec w) : laneMin t w ≤ intOf t v := by
  cases t with
  | signed => simpa [laneMin, intOf] using BitVec.le_toInt v
  | unsigned => simp [laneMin, intOf]

/-- A lane's integer lies in the range of its type. -/
theorem intOf_le_laneMax (t : Sign) {w : Nat} (v : BitVec w) : intOf t v ≤ laneMax t w := by
  cases t with
  | signed =>
    have h := BitVec.toInt_lt (x := v)
    simp only [laneMax, intOf]
    omega
  | unsigned =>
    have h : (v.toNat : Int) < ((2 ^ w : Nat) : Int) := Int.ofNat_lt.mpr v.isLt
    rw [Nat.cast_pow, Nat.cast_ofNat] at h
    simp only [laneMax, intOf]
    omega

/-- The range of a lane type is not empty. -/
theorem laneMin_le_laneMax (t : Sign) (w : Nat) : laneMin t w ≤ laneMax t w :=
  Int.le_trans (laneMin_le_intOf t (0 : BitVec w)) (intOf_le_laneMax t 0)

/-- A clamped integer is not below the lower bound. -/
theorem le_clamp (i : Int) {lo hi : Int} (h : lo ≤ hi) : lo ≤ clamp i lo hi := by
  unfold clamp
  split
  · exact Int.le_refl _
  · split <;> omega

/-- A clamped integer is not above the upper bound. -/
theorem clamp_le (i : Int) {lo hi : Int} (h : lo ≤ hi) : clamp i lo hi ≤ hi := by
  unfold clamp
  split
  · exact h
  · split <;> omega

/-- Clamping an integer of the range changes nothing. -/
theorem clamp_of_mem {i lo hi : Int} (hlo : lo ≤ i) (hhi : i ≤ hi) : clamp i lo hi = i := by
  unfold clamp
  rw [if_neg (Int.not_lt.mpr hlo), if_neg (Int.not_lt.mpr hhi)]

/-- Cutting a lane's own integer to its width gives the lane back. -/
theorem truncTo_intOf (t : Sign) {w : Nat} (v : BitVec w) : truncTo w (intOf t v) = v := by
  cases t with
  | signed => exact BitVec.ofInt_toInt
  | unsigned =>
    unfold truncTo intOf
    rw [BitVec.ofInt_natCast, BitVec.ofNat_toNat, BitVec.setWidth_eq]

/-- Cutting to `w` bits loses nothing on an integer of the range of the lane type (00_scope.md rule R17). -/
theorem intOf_truncTo {t : Sign} {w : Nat} {i : Int} (hw : 0 < w) (hlo : laneMin t w ≤ i) (hhi : i ≤ laneMax t w) :
    intOf t (truncTo w i) = i := by
  cases t with
  | signed =>
    simp only [laneMin, laneMax] at hlo hhi
    unfold intOf truncTo
    refine BitVec.toInt_ofInt_eq_self hw hlo ?_
    omega
  | unsigned =>
    simp only [laneMin, laneMax] at hlo hhi
    unfold intOf truncTo
    rw [BitVec.toNat_ofInt, Int.toNat_of_nonneg (Int.emod_nonneg _ (by positivity))]
    refine Int.emod_eq_of_lt hlo ?_
    rw [Nat.cast_pow, Nat.cast_ofNat]
    omega

/-- A saturated result, read back as an integer, is the clamped exact result. -/
theorem intOf_saturate {t : Sign} {w : Nat} (hw : 0 < w) (i : Int) :
    intOf t (saturate t w i) = clamp i (laneMin t w) (laneMax t w) :=
  intOf_truncTo hw (le_clamp i (laneMin_le_laneMax t w)) (clamp_le i (laneMin_le_laneMax t w))

/-- A result in range is not changed by saturation. -/
theorem saturate_of_mem {t : Sign} {w : Nat} {i : Int} (hlo : laneMin t w ≤ i) (hhi : i ≤ laneMax t w) :
    saturate t w i = truncTo w i := by
  unfold saturate
  rw [clamp_of_mem hlo hhi]

/-- Every lane width is positive. -/
theorem width_bits_pos (w : Width) : 0 < w.bits := by
  cases w <;> decide

end Sys2Proof.Machine
end

