-- ==== Sys2Proof/Tests/Slice0.lean ====
section
/-! SUPPORT. Tests of the model, with expected values from spec/95_test_vectors.md and the examples of the rules, and for each
statement with hypotheses a witness that meets them. -/

-- One theorem after another: a thread for each would pass the memory limit the check sets.
set_option Elab.async false

namespace Sys2Proof.Tests

open Sys2Proof Sys2Proof.Machine

/-- A state with the given command and vector operands, the other ports zero. -/
def st (c : Command) (a b : Vec) : State :=
  State.reset.present { State.reset.inputs with cmd := c, a := a, b := b }

/-- A state with the given command, operand `A`, scalar and index. -/
def stLane (c : Command) (a : Vec) (v : Scalar) (idx : LaneIndex) : State :=
  State.reset.present { State.reset.inputs with cmd := c, a := a, s := v, idx := idx }

/-- A state with the given command, indices, fallback and first two table registers. -/
def stTable (c : Command) (a b t0 t1 : Vec) : State :=
  State.reset.present { State.reset.inputs with cmd := c, a := a, b := b, t0 := t0, t1 := t1 }

/-- What a step from `s` drives. -/
def run (s : State) : Option Outputs :=
  resultOf (step s)

/-- `R = r` and `X = 0`. -/
def drove (r : Vec) : Option Outputs :=
  some { r := r, x := 0 }

/-- `X = x` and `R = 0`. -/
def droveX (x : Scalar) : Option Outputs :=
  some { r := 0, x := x }

/-! ## Well-formedness: an ill-formed term for each check (30_encoding.md rules R60, R62, R63) -/

theorem test_narrow_of_bytes_is_ill_formed : (Form.narrow .signed .w8).wf = false := by decide
theorem test_narrowSat_of_bytes_is_ill_formed : (Form.narrowSat .unsigned .w8).wf = false := by decide
theorem test_narrowSatun_of_bytes_is_ill_formed : (Form.narrowSatun .w8).wf = false := by decide
theorem test_widen_of_64_is_ill_formed : (Form.widen .signed .w64).wf = false := by decide
theorem test_widen_of_32_is_well_formed : (Form.widen .signed .w32).wf = true := by decide
theorem test_low_bits_set_are_illegal : (Fields.ofWord 0x1001).legal = false := by decide
theorem test_table_count_outside_tables_is_illegal : (Fields.ofWord 0x1004).legal = false := by decide
theorem test_reserved_unit_is_illegal : (Fields.ofWord 0xC000).legal = false := by decide
theorem test_reserved_function_is_illegal : (Fields.ofWord 0x5100).legal = false := by decide
theorem test_full_narrow_is_illegal : (Fields.ofWord 0x6090).legal = false := by decide
theorem test_unsigned_qd_is_illegal : (Fields.ofWord 0xB040).legal = false := by decide
theorem test_wide_table_lanes_are_illegal : (Fields.ofWord 0xA050).legal = false := by decide
theorem test_sample_legal_fields :
    (Fields.ofWord 0x41D0) = { unit := 4, fn := 1, q := 1, u := 1, sz := 1, nr := 0, zero := 0 } := by decide

/-! ## Decoding: words written bit by bit from 30_encoding.md rule R55, one a family -/

theorem test_bits_satAdd : decode 0b0001_0000_1_0_00_00_00 = .command .satAddQS8 := by decide
theorem test_bits_satNeg : decode 0b0011_0001_0_1_11_00_00 = .command .satNegU64 := by decide
theorem test_bits_rhadd : decode 0b0100_0001_1_1_01_00_00 = .command .rhaddQU16 := by decide
theorem test_bits_narrowSatun : decode 0b0110_0010_0_0_10_00_00 = .command .narrowSatunS32 := by decide
theorem test_bits_widen : decode 0b0111_0000_0_1_10_00_00 = .command .widenU32 := by decide
theorem test_bits_extractLane : decode 0b1000_0000_1_1_01_00_00 = .command .extractLaneQU16 := by decide
theorem test_bits_tbx : decode 0b1010_0001_1_1_00_10_00 = .command .tbx3QU8 := by decide
theorem test_bits_qd : decode 0b1011_0000_0_0_11_00_00 = .command .qdS64 := by decide

/-! ## Decoding: every word of the list of 30_encoding.md rule R72 -/

theorem test_words_satAdd :
    ([0x1000, 0x1010, 0x1020, 0x1030, 0x1040, 0x1050, 0x1060, 0x1070, 0x1080, 0x1090, 0x10A0, 0x10B0,
      0x10C0, 0x10D0, 0x10E0, 0x10F0] : List Nat).map (decodeTableWord 16) =
    ([.satAddS8, .satAddS16, .satAddS32, .satAddS64, .satAddU8, .satAddU16, .satAddU32, .satAddU64,
      .satAddQS8, .satAddQS16, .satAddQS32, .satAddQS64, .satAddQU8, .satAddQU16, .satAddQU32, .satAddQU64] : List Instr).map some := by decide +kernel

theorem test_words_satSub :
    ([0x2000, 0x2010, 0x2020, 0x2030, 0x2040, 0x2050, 0x2060, 0x2070, 0x2080, 0x2090, 0x20A0, 0x20B0,
      0x20C0, 0x20D0, 0x20E0, 0x20F0] : List Nat).map (decodeTableWord 16) =
    ([.satSubS8, .satSubS16, .satSubS32, .satSubS64, .satSubU8, .satSubU16, .satSubU32, .satSubU64,
      .satSubQS8, .satSubQS16, .satSubQS32, .satSubQS64, .satSubQU8, .satSubQU16, .satSubQU32, .satSubQU64] : List Instr).map some := by decide +kernel

theorem test_words_satAbs :
    ([0x3000, 0x3010, 0x3020, 0x3030, 0x3040, 0x3050, 0x3060, 0x3070, 0x3080, 0x3090, 0x30A0, 0x30B0,
      0x30C0, 0x30D0, 0x30E0, 0x30F0] : List Nat).map (decodeTableWord 16) =
    ([.satAbsS8, .satAbsS16, .satAbsS32, .satAbsS64, .satAbsU8, .satAbsU16, .satAbsU32, .satAbsU64,
      .satAbsQS8, .satAbsQS16, .satAbsQS32, .satAbsQS64, .satAbsQU8, .satAbsQU16, .satAbsQU32, .satAbsQU64] : List Instr).map some := by decide +kernel

theorem test_words_satNeg :
    ([0x3100, 0x3110, 0x3120, 0x3130, 0x3140, 0x3150, 0x3160, 0x3170, 0x3180, 0x3190, 0x31A0, 0x31B0,
      0x31C0, 0x31D0, 0x31E0, 0x31F0] : List Nat).map (decodeTableWord 16) =
    ([.satNegS8, .satNegS16, .satNegS32, .satNegS64, .satNegU8, .satNegU16, .satNegU32, .satNegU64,
      .satNegQS8, .satNegQS16, .satNegQS32, .satNegQS64, .satNegQU8, .satNegQU16, .satNegQU32, .satNegQU64] : List Instr).map some := by decide +kernel

theorem test_words_hadd :
    ([0x4000, 0x4010, 0x4020, 0x4030, 0x4040, 0x4050, 0x4060, 0x4070, 0x4080, 0x4090, 0x40A0, 0x40B0,
      0x40C0, 0x40D0, 0x40E0, 0x40F0] : List Nat).map (decodeTableWord 16) =
    ([.haddS8, .haddS16, .haddS32, .haddS64, .haddU8, .haddU16, .haddU32, .haddU64, .haddQS8, .haddQS16,
      .haddQS32, .haddQS64, .haddQU8, .haddQU16, .haddQU32, .haddQU64] : List Instr).map some := by decide +kernel

theorem test_words_rhadd :
    ([0x4100, 0x4110, 0x4120, 0x4130, 0x4140, 0x4150, 0x4160, 0x4170, 0x4180, 0x4190, 0x41A0, 0x41B0,
      0x41C0, 0x41D0, 0x41E0, 0x41F0] : List Nat).map (decodeTableWord 16) =
    ([.rhaddS8, .rhaddS16, .rhaddS32, .rhaddS64, .rhaddU8, .rhaddU16, .rhaddU32, .rhaddU64, .rhaddQS8,
      .rhaddQS16, .rhaddQS32, .rhaddQS64, .rhaddQU8, .rhaddQU16, .rhaddQU32, .rhaddQU64] : List Instr).map some := by decide +kernel

theorem test_words_hsub :
    ([0x5000, 0x5010, 0x5020, 0x5030, 0x5040, 0x5050, 0x5060, 0x5070, 0x5080, 0x5090, 0x50A0, 0x50B0,
      0x50C0, 0x50D0, 0x50E0, 0x50F0] : List Nat).map (decodeTableWord 16) =
    ([.hsubS8, .hsubS16, .hsubS32, .hsubS64, .hsubU8, .hsubU16, .hsubU32, .hsubU64, .hsubQS8, .hsubQS16,
      .hsubQS32, .hsubQS64, .hsubQU8, .hsubQU16, .hsubQU32, .hsubQU64] : List Instr).map some := by decide +kernel

theorem test_words_narrow :
    ([0x6010, 0x6020, 0x6030, 0x6050, 0x6060, 0x6070] : List Nat).map (decodeTableWord 16) =
    ([.narrowS16, .narrowS32, .narrowS64, .narrowU16, .narrowU32, .narrowU64] : List Instr).map some := by decide +kernel

theorem test_words_narrowSat :
    ([0x6110, 0x6120, 0x6130, 0x6150, 0x6160, 0x6170] : List Nat).map (decodeTableWord 16) =
    ([.narrowSatS16, .narrowSatS32, .narrowSatS64, .narrowSatU16, .narrowSatU32, .narrowSatU64] : List Instr).map some := by decide +kernel

theorem test_words_narrowSatun :
    ([0x6210, 0x6220, 0x6230] : List Nat).map (decodeTableWord 16) =
    ([.narrowSatunS16, .narrowSatunS32, .narrowSatunS64] : List Instr).map some := by decide +kernel

theorem test_words_widen :
    ([0x7000, 0x7010, 0x7020, 0x7040, 0x7050, 0x7060] : List Nat).map (decodeTableWord 16) =
    ([.widenS8, .widenS16, .widenS32, .widenU8, .widenU16, .widenU32] : List Instr).map some := by decide +kernel

theorem test_words_extractLane :
    ([0x8000, 0x8010, 0x8020, 0x8030, 0x8040, 0x8050, 0x8060, 0x8070, 0x8080, 0x8090, 0x80A0, 0x80B0,
      0x80C0, 0x80D0, 0x80E0, 0x80F0] : List Nat).map (decodeTableWord 16) =
    ([.extractLaneS8, .extractLaneS16, .extractLaneS32, .extractLaneS64, .extractLaneU8, .extractLaneU16,
      .extractLaneU32, .extractLaneU64, .extractLaneQS8, .extractLaneQS16, .extractLaneQS32,
      .extractLaneQS64, .extractLaneQU8, .extractLaneQU16, .extractLaneQU32, .extractLaneQU64] : List Instr).map some := by decide +kernel

theorem test_words_insertLane :
    ([0x9000, 0x9010, 0x9020, 0x9030, 0x9040, 0x9050, 0x9060, 0x9070, 0x9080, 0x9090, 0x90A0, 0x90B0,
      0x90C0, 0x90D0, 0x90E0, 0x90F0] : List Nat).map (decodeTableWord 16) =
    ([.insertLaneS8, .insertLaneS16, .insertLaneS32, .insertLaneS64, .insertLaneU8, .insertLaneU16,
      .insertLaneU32, .insertLaneU64, .insertLaneQS8, .insertLaneQS16, .insertLaneQS32, .insertLaneQS64,
      .insertLaneQU8, .insertLaneQU16, .insertLaneQU32, .insertLaneQU64] : List Instr).map some := by decide +kernel

theorem test_words_tbl :
    ([0xA000, 0xA004, 0xA008, 0xA00C, 0xA040, 0xA044, 0xA048, 0xA04C, 0xA080, 0xA084, 0xA088, 0xA08C,
      0xA0C0, 0xA0C4, 0xA0C8, 0xA0CC] : List Nat).map (decodeTableWord 16) =
    ([.tbl1S8, .tbl2S8, .tbl3S8, .tbl4S8, .tbl1U8, .tbl2U8, .tbl3U8, .tbl4U8, .tbl1QS8, .tbl2QS8,
      .tbl3QS8, .tbl4QS8, .tbl1QU8, .tbl2QU8, .tbl3QU8, .tbl4QU8] : List Instr).map some := by decide +kernel

theorem test_words_tbx :
    ([0xA100, 0xA104, 0xA108, 0xA10C, 0xA140, 0xA144, 0xA148, 0xA14C, 0xA180, 0xA184, 0xA188, 0xA18C,
      0xA1C0, 0xA1C4, 0xA1C8, 0xA1CC] : List Nat).map (decodeTableWord 16) =
    ([.tbx1S8, .tbx2S8, .tbx3S8, .tbx4S8, .tbx1U8, .tbx2U8, .tbx3U8, .tbx4U8, .tbx1QS8, .tbx2QS8,
      .tbx3QS8, .tbx4QS8, .tbx1QU8, .tbx2QU8, .tbx3QU8, .tbx4QU8] : List Instr).map some := by decide +kernel

theorem test_words_qd :
    ([0xB000, 0xB010, 0xB020, 0xB030, 0xB080, 0xB090, 0xB0A0, 0xB0B0] : List Nat).map (decodeTableWord 16) =
    ([.qdS8, .qdS16, .qdS32, .qdS64, .qdQS8, .qdQS16, .qdQS32, .qdQS64] : List Instr).map some := by decide +kernel

/-! ## Mnemonics (30_encoding.md rule R67) -/

theorem test_mnemonics :
    ([.satAddS8, .satAddQS8, .rhaddQU16, .narrowSatunS32, .tbx3QU8] : List Instr).map Instr.mnemonic =
    ["sat_add_s8", "sat_addq_s8", "rhaddq_u16", "narrow_satun_s32", "tbx3q_u8"] := by decide +kernel
theorem test_operands_of_tbx2 : (Instr.form .tbx2U8).operands = [.t0, .t1, .a, .b] := by decide

/-! ## One transaction each (spec/95_test_vectors.md sections 1 and 2) -/

theorem test_satAddQS8_source_scenario :
    run (st 0x1080 0x78787878787878787878787878787878 0x78787878787878787878787878787878) = drove 0x7F7F7F7F7F7F7F7F7F7F7F7F7F7F7F7F := by decide +kernel
theorem test_satAddU16_saturates_at_the_top :
    run (st 0x1050 0x0001FFFF80007FFF 0x7FFF8000FFFF0001) = drove 0x8000FFFFFFFF8000 := by decide +kernel
theorem test_satAddS8_ignores_the_upper_half :
    run (st 0x1000 0xDEADBEEFDEADBEEF0101010101010101 0xDEADBEEFDEADBEEF0101010101010101) = drove 0x0202020202020202 := by decide +kernel
theorem test_satSubS16_clamps_both_ways :
    run (st 0x2010 0x0001FFFF80007FFF 0x7FFF8000FFFF0001) = drove 0x80027FFF80017FFE := by decide +kernel
theorem test_satSubU64_borrow_gives_zero :
    run (st 0x2070 5 6) = drove 0 := by decide +kernel
theorem test_satAbsQS8_smin_gives_smax :
    run (st 0x3080 0xAA55C04001FF807F40009C64FF80017F 0) = drove 0x5655404001017F7F40006464017F017F := by decide +kernel
theorem test_satNegS16_smin_gives_smax :
    run (st 0x3110 0x0001FFFF80007FFF 0) = drove 0xFFFF00017FFF8001 := by decide +kernel
theorem test_haddU16_corrected_scenario :
    run (st 0x4050 0xFFFF 0xFFFF) = drove 0xFFFF := by decide +kernel
theorem test_haddQS8_rounds_down :
    run (st 0x4080 0xAA55C04001FF807F40009C64FF80017F 0x55AAC040FFFF808040009C6480FF7F01) = drove 0xFFFFC04000FF80FF40009C64BFBF4040 := by decide +kernel
theorem test_rhaddQS8_ties_go_up :
    run (st 0x4180 0xAA55C04001FF807F40009C64FF80017F 0x55AAC040FFFF808040009C6480FF7F01) = drove 0x0000C04000FF800040009C64C0C04040 := by decide +kernel
theorem test_hsubQU8_wraps_below_zero :
    run (st 0x50C0 0xAA55C04001FF807F40009C64FF80017F 0x55AAC040FFFF808040009C6480FF7F01) = drove 0x2AD50000810000FF000000003FC0C13F := by decide +kernel
theorem test_widenS8_extends_the_sign :
    run (st 0x7000 0x01027F80FF00807F 0) = drove 0x00010002007FFF80FFFF0000FF80007F := by decide +kernel
theorem test_widenU32_extends_with_zero :
    run (st 0x7060 0x800000007FFFFFFF 0) = drove 0x0000000080000000000000007FFFFFFF := by decide +kernel
theorem test_narrowU16_keeps_low_bytes :
    run (st 0x6050 0x7FFF8000FFFFFF7FFF8001000080007F 0) = drove 0xFF00FF7F8000807F := by decide +kernel
theorem test_narrowSatS16_clamps :
    run (st 0x6110 0x7FFF8000FFFFFF7FFF8001000080007F 0) = drove 0x7F80FF80807F7F7F := by decide +kernel
theorem test_narrowSatU64_clamps :
    run (st 0x6170 0xFFFFFFFF800000000000000100000000 0) = drove 0xFFFFFFFFFFFFFFFF := by decide +kernel
theorem test_narrowSatunS16_clamps :
    run (st 0x6210 0x7FFF8000FFFFFF7FFF8001000080007F 0) = drove 0xFF00000000FF807F := by decide +kernel
theorem test_extractLaneQS16_extends_the_sign :
    run (stLane 0x8090 0x7FFF8000FFFFFF7FFF8001000080007F 0 6) = droveX 0xFFFFFFFFFFFF8000 := by decide +kernel
theorem test_extractLaneQU16_extends_with_zero :
    run (stLane 0x80D0 0x7FFF8000FFFFFF7FFF8001000080007F 0 6) = droveX 0x8000 := by decide +kernel
theorem test_extractLaneS64_refuses_lane_one :
    run (stLane 0x8030 0xFEDCBA98765432108899AABBCCDDEEFF 0 1) = none := by decide +kernel
theorem test_insertLaneU8_keeps_the_other_lanes :
    run (stLane 0x9040 0x0706050403020100 0xFFFFFFFFFFFFFFAB 3) = drove 0x07060504AB020100 := by decide +kernel
theorem test_insertLaneQS64_upper_lane :
    run (stLane 0x90B0 0xFEDCBA98765432108899AABBCCDDEEFF 0x1122334455667788 1) = drove 0x11223344556677888899AABBCCDDEEFF := by decide +kernel
theorem test_insertLaneQS8_refuses_lane_sixteen :
    run (stLane 0x9080 0 1 16) = none := by decide +kernel
theorem test_tbl1U8_example :
    run (stTable 0xA040 0xFF08070001020304 0 0x8877665544332211 0) = drove 0x0000881122334455 := by decide +kernel
theorem test_tbx2U8_example :
    run (stTable 0xA144 0xFF100F0807000102 0xB7B6B5B4B3B2B1B0 0x8877665544332211 0x0FEDCBA987654321) = drove 0xB7B60F2188112233 := by decide +kernel
theorem test_qdS8_example :
    run (st 0xB000 0x00FF807FBFC0403F 0) = drove 0x00FE807F80807F7E := by decide +kernel
theorem test_qdQS64_clamps :
    run (st 0xB0B0 0xBFFFFFFFFFFFFFFF4000000000000000 0) = drove 0x80000000000000007FFFFFFFFFFFFFFF := by decide +kernel
theorem test_reserved_word_is_refused :
    run (st 0x5100 1 1) = none := by decide +kernel

/-- 95_test_vectors.md, program 5: a refused transaction leaves nothing behind. -/
theorem test_session_goes_on_after_a_refusal :
    serve State.reset [(stLane 0x8050 0x1111222233334444 0 3).inputs, (stLane 0x8050 0x1111222233334444 0 4).inputs,
      (stLane 0x8050 0x1111222233334444 0 2).inputs] = [droveX 0x1111, none, droveX 0x2222] := by decide +kernel

/-- The very next step runs the word placed. -/
theorem test_withFetchWord_runs_next : run (State.reset.withFetchWord 16 0x3080) = drove 0 := by decide +kernel

/-! ## Witnesses: for each statement with hypotheses, a state and operands that meet them -/

theorem test_meets_EveryDecodedWordIsItsCommandsEncoding : decode 0xA1CC = .command .tbx4QU8 := by decide

theorem test_meets_MnemonicsAndLegalWordsCorrespond : decode 0x6230 ≠ .invalid ∧ Instr.mnemonic .qdS8 = Instr.mnemonic .qdS8 := by
  decide

theorem test_meets_WordIsLegalExactlyWhenItsFieldsMatchARow :
    (Fields.ofWord 0x6230).legal = true ∧ (Fields.ofWord 0x6200).legal = false := by decide

theorem test_meets_StepRunsTheDecodedCommand : decode (st 0x1000 1 2).inputs.cmd = .command .satAddS8 := by decide

theorem test_meets_OnlyALaneIndexOutOfRangeStopsACommand :
    (resultOf (exec .extractLaneQU8 (stLane 0x80C0 1 0 15))).isSome = true ∧
    exec (.ofExtractLane .full .unsigned .w8) (stLane 0x80C0 1 0 16) = .refused (.laneIndexOutOfRange 16 16) ∧
    (resultOf (exec .satAddS8 (stLane 0x1000 1 0 255))).isSome = true := ⟨rfl, rfl, rfl⟩

theorem test_meets_ResultIsAFunctionOfTheInputPorts :
    (st 0x1000 1 2).inputs = ({ st 0x1000 1 2 with outputs := { r := 5, x := 6 } } : State).inputs ∧
    ∃ t, step (st 0x1000 1 2) = .next t := ⟨rfl, _, rfl⟩

theorem test_meets_EveryStepLeavesASettledState :
    (∃ t, step (st 0x1000 1 2) = .next t) ∧ State.Settled (st 0x0000 1 2) :=
  ⟨⟨_, rfl⟩, fun _ h => nomatch h⟩

theorem test_meets_EveryStepDrivesOneOutputPort :
    (∃ t, exec .satAddS8 (st 0x1000 1 2) = .next t) ∧ (Instr.form .satAddS8).resultPort = .r ∧
    (∃ t, exec .extractLaneS8 (stLane 0x8000 1 0 7) = .next t) ∧ (Instr.form .extractLaneS8).resultPort = .x ∧
    ∃ t, step (st 0x1000 1 2) = .next t := ⟨⟨_, rfl⟩, rfl, ⟨_, rfl⟩, rfl, _, rfl⟩

theorem test_meets_ResultsFillTheirLayoutAndNoMore :
    (∃ l, formLayout (Instr.form .narrowS16) = some l) ∧ ∃ t, exec .narrowS16 (st 0x6010 1 2) = .next t :=
  ⟨⟨_, rfl⟩, _, rfl⟩

theorem test_meets_UnreadPortBitsHaveNoEffect :
    formRead (Instr.form .satAbsS8) (st 0x3000 0x80 7).inputs = formRead (Instr.form .satAbsS8) (st 0x3000 (0x80 + 2 ^ 64) 9).inputs ∧
    (st 0x3000 0x80 7).inputs ≠ (st 0x3000 (0x80 + 2 ^ 64) 9).inputs := by decide +kernel

theorem test_meets_LanesDoNotInteract :
    formLayout (Instr.form .insertLaneS8) = some { lanes := 8, operandWidth := 8, resultWidth := 8 } ∧
    (stLane 0x9000 0x0507 9 3).inputs.s = (stLane 0x9000 0x0607 9 3).inputs.s ∧
    (stLane 0x9000 0x0507 9 3).inputs.idx = (stLane 0x9000 0x0607 9 3).inputs.idx ∧
    lane 8 (stLane 0x9000 0x0507 9 3).inputs.a 0 = lane 8 (stLane 0x9000 0x0607 9 3).inputs.a 0 ∧
    lane 8 (stLane 0x9000 0x0507 9 3).inputs.a 1 ≠ lane 8 (stLane 0x9000 0x0607 9 3).inputs.a 1 ∧
    (resultOf (exec .insertLaneS8 (stLane 0x9000 0x0507 9 3))).isSome = true ∧
    (resultOf (exec .insertLaneS8 (stLane 0x9000 0x0607 9 3))).isSome = true := by decide +kernel

theorem test_meets_LanesDoNotInteract_table :
    Port.t0 ∈ (Instr.form .tbl1U8).operands ∧
    (∀ j, (stTable 0xA040 0x0507 1 2 3).inputs.table j = (stTable 0xA040 0x0607 1 2 3).inputs.table j) ∧
    lane 8 (stTable 0xA040 0x0507 1 2 3).inputs.a 0 = lane 8 (stTable 0xA040 0x0607 1 2 3).inputs.a 0 ∧
    lane 8 (stTable 0xA040 0x0507 1 2 3).inputs.b 0 = lane 8 (stTable 0xA040 0x0607 1 2 3).inputs.b 0 :=
  ⟨by decide, fun _ => rfl, by decide +kernel, by decide +kernel⟩

theorem test_meets_SessionsAnswerEveryTransactionAlone :
    [(st 0x1000 1 2).inputs, (st 0x2000 1 2).inputs].Perm [(st 0x2000 1 2).inputs, (st 0x1000 1 2).inputs] :=
  List.Perm.swap _ _ _

theorem test_meets_SatAbsSignedClampsTheMagnitude :
    (∃ t, exec (.ofSatAbs .short .signed .w8) (st 0x3000 0x80 0) = .next t) ∧ 7 < laneCount .short Width.w8.bits :=
  ⟨⟨_, rfl⟩, by decide⟩

theorem test_meets_WidenExtendsEveryLane :
    Instr.ofWiden .signed .w32 = some .widenS32 ∧ (∃ t, exec .widenS32 (st 0x7020 1 0) = .next t) ∧
    1 < laneCount .short Width.w32.bits := ⟨rfl, ⟨_, rfl⟩, by decide⟩

theorem test_meets_InterleavingEqualsWidening : Instr.ofWiden .unsigned .w8 = some .widenU8 := rfl

theorem test_meets_NarrowKeepsTheLowHalf :
    Instr.ofNarrow .signed .w16 = some .narrowS16 ∧ Instr.ofNarrow .unsigned .w16 = some .narrowU16 := ⟨rfl, rfl⟩

theorem test_meets_NarrowSatClampsToTheHalfWidth : Instr.ofNarrowSat .unsigned .w64 = some .narrowSatU64 := rfl

theorem test_meets_NarrowSatunClampsSignedToUnsigned : Instr.ofNarrowSatun .w32 = some .narrowSatunS32 := rfl

theorem test_meets_ExtractLaneReadsTheIndexedLane :
    (stLane 0x80C0 1 0 15).inputs.idx.toNat < laneCount .full Width.w8.bits ∧
    laneCount .full Width.w8.bits ≤ (stLane 0x80C0 1 0 16).inputs.idx.toNat := by decide

theorem test_meets_InsertLaneReplacesTheIndexedLane :
    (stLane 0x9030 1 0 0).inputs.idx.toNat < laneCount .short Width.w64.bits ∧
    laneCount .short Width.w64.bits ≤ (stLane 0x9030 1 0 1).inputs.idx.toNat := by decide

theorem test_meets_LaneCountsBoundTheIndex :
    laneCount .full Width.w16.bits ≤ (stLane 0x8090 1 0 8).inputs.idx.toNat := by decide

theorem test_meets_DoublingIsAddingALaneToItself : (st 0xB000 0x40 0x40).inputs.b = (st 0xB000 0x40 0x40).inputs.a := rfl

theorem test_meets_DiscardedBitsTestEqualsSaturatingNarrow : Width.w16 ≠ .w8 := by decide

theorem test_meets_NarrowingsMayAgreeOutOfRange : Width.w64 ≠ .w8 := by decide

theorem test_meets_NarrowingUndoesWidening :
    Width.w16 ≠ .w8 ∧ laneMin .signed (Width.w16.bits / 2) ≤ intOf .signed (0xFF80 : BitVec Width.w16.bits) ∧
    intOf .signed (0xFF80 : BitVec Width.w16.bits) ≤ laneMax .signed (Width.w16.bits / 2) := by decide

theorem test_meets_SaturationActsExactlyOutsideTheRange :
    laneMax .signed 8 < intOf .signed (127 : BitVec 8) + intOf .signed (1 : BitVec 8) ∧
    intOf .signed (128 : BitVec 8) + intOf .signed (255 : BitVec 8) < laneMin .signed 8 ∧
    laneMax .signed 8 < intOf .signed (0 : BitVec 8) - intOf .signed (128 : BitVec 8) ∧
    intOf .unsigned (0 : BitVec 8) - intOf .unsigned (1 : BitVec 8) < laneMin .unsigned 8 := by decide

theorem test_meets_HalvingResultsAreOrderedAndAddUp :
    (intOf .signed (0xFD : BitVec 8) + intOf .signed (0 : BitVec 8)) % 2 = 1 := by decide

theorem test_meets_ExtractAfterInsertReadsWhatWasInserted :
    (stLane 0x90D0 0x00070006 6 0).inputs.idx.toNat < laneCount .full Width.w16.bits ∧
    (∃ s₁, exec (.ofInsertLane .full .unsigned .w16) (stLane 0x90D0 0x00070006 6 0) = .next s₁) ∧
    (7 : LaneIndex) ≠ (stLane 0x90D0 0x00070006 6 0).inputs.idx ∧
    (7 : LaneIndex).toNat < laneCount .full Width.w16.bits ∧
    ((stLane 0x90D0 0x00070006 6 0).inputs.s.setWidth Width.w16.bits : BitVec Width.w16.bits) =
      lane Width.w16.bits (stLane 0x90D0 0x00070006 6 0).inputs.a 0 :=
  ⟨by decide, ⟨_, rfl⟩, by decide, by decide, by decide +kernel⟩

theorem test_meets_TableLookupsOfDifferentSizesAgree :
    (stTable 0xA040 0x0807 0 2 3).inputs.b = 0 ∧ TableCount.one.count < TableCount.two.count ∧ 1 < byteCount .short ∧
    (lane 8 (stTable 0xA040 0x0807 0 2 3).inputs.a 0).toNat < TableCount.one.count * byteCount .short ∧
    TableCount.one.count * byteCount .short ≤ (lane 8 (stTable 0xA040 0x0807 0 2 3).inputs.a 1).toNat ∧
    (∃ s₁, exec (.ofTbl .one .short .signed) (stTable 0xA040 0x0807 0 2 3) = .next s₁) ∧
    (∃ s₂, exec (.ofTbl .two .short .signed) (stTable 0xA040 0x0807 0 2 3) = .next s₂) ∧
    (∃ s₃, exec (.ofTbx .one .short .signed) (stTable 0xA040 0x0807 0 2 3) = .next s₃) :=
  ⟨by decide +kernel, by decide, by decide, by decide +kernel, by decide +kernel, ⟨_, rfl⟩, ⟨_, rfl⟩, _, rfl⟩

theorem test_meets_TableLookupsOfDifferentSizesAgree_permutation :
    ∀ k : Fin (byteCount .short),
      (lane 8 (stTable 0xA040 0x0706050403020100 0 2 3).inputs.a k).toNat = (1 : Equiv.Perm (Fin (byteCount .short))) k := by
  decide +kernel

end Sys2Proof.Tests
end

section
/-! Completion of a transaction (00_scope.md rules R12 and R13): what a step does with the decoded word, when a command of a
given form has a next state, and when a transaction is well formed. The lane index is the one operand that can stop a
command (43_lane_access.md rule R132), so everything is stated through `formLaneBound`. -/

namespace Sys2Proof.Machine

/-! ## The step by what the decoder answers -/

/-- Settles O8: carrying out the decoded command is all the step does with a legal word. -/
theorem stepRunsTheDecodedCommand : Obligations.StepRunsTheDecodedCommand := by
  intro s i hi
  simp only [step, hi]

theorem step_of_invalid {s : State} (h : decode s.inputs.cmd = .invalid) :
    step s = .refused (.reservedCommand s.inputs.cmd) := by
  simp only [step, h]

/-! ## Lane access by the lane index -/

theorem extractLane_of_lt {q : RegSize} {t : Sign} {w : Width} {s : State}
    (h : s.inputs.idx.toNat < laneCount q w.bits) :
    extractLane q t w s = s.driveX (extend t 64 (lane w.bits s.inputs.a s.inputs.idx.toNat)) := by
  rw [extractLane, withLane_of_lt h]

theorem extractLane_of_le {q : RegSize} {t : Sign} {w : Width} {s : State}
    (h : laneCount q w.bits ≤ s.inputs.idx.toNat) :
    extractLane q t w s = .refused (.laneIndexOutOfRange s.inputs.idx (laneCount q w.bits)) := by
  rw [extractLane, withLane_of_le h]

theorem insertLane_of_lt {q : RegSize} {w : Width} {s : State} (h : s.inputs.idx.toNat < laneCount q w.bits) :
    insertLane q w s = s.driveR (pack w.bits (laneCount q w.bits) fun k =>
      if k = s.inputs.idx.toNat then s.inputs.s.extractLsb' 0 w.bits else lane w.bits s.inputs.a k) := by
  rw [insertLane, withLane_of_lt h]

theorem insertLane_of_le {q : RegSize} {w : Width} {s : State} (h : laneCount q w.bits ≤ s.inputs.idx.toNat) :
    insertLane q w s = .refused (.laneIndexOutOfRange s.inputs.idx (laneCount q w.bits)) := by
  rw [insertLane, withLane_of_le h]

/-! ## What a form does under its lane bound -/

/-- A form that does not read the lane index drives `R`, whatever its operands hold. -/
theorem formExec_of_unbounded {f : Form} (hf : formLaneBound f = none) (s : State) :
    ∃ v : Vec, formExec f s = s.driveR v := by
  cases f with
  | extractLane | insertLane => nomatch hf
  | _ => exact ⟨_, rfl⟩

/-- A lane access whose index is below the bound drives one of the two output ports. -/
theorem formExec_of_lt {f : Form} {n : Nat} {s : State} (hf : formLaneBound f = some n) (hn : s.inputs.idx.toNat < n) :
    (∃ v : Vec, formExec f s = s.driveR v) ∨ ∃ v : Scalar, formExec f s = s.driveX v := by
  cases f with
  | extractLane q t w =>
    cases hf
    exact .inr ⟨_, extractLane_of_lt hn⟩
  | insertLane q t w =>
    cases hf
    exact .inl ⟨_, insertLane_of_lt hn⟩
  | _ => nomatch hf

/-- A lane access whose index is not below the bound is refused (43_lane_access.md rule R132). -/
theorem formExec_of_le {f : Form} {n : Nat} {s : State} (hf : formLaneBound f = some n) (hn : n ≤ s.inputs.idx.toNat) :
    formExec f s = .refused (.laneIndexOutOfRange s.inputs.idx n) := by
  cases f with
  | extractLane q t w =>
    cases hf
    exact extractLane_of_le hn
  | insertLane q t w =>
    cases hf
    exact insertLane_of_le hn
  | _ => nomatch hf

/-- The lane bound is all that decides whether a command has a next state. -/
theorem exec_completes_iff (i : Instr) (s : State) :
    (∃ t : State, exec i s = .next t) ↔ ∀ n, formLaneBound i.form = some n → s.inputs.idx.toNat < n := by
  rw [exec_eq_formExec]
  constructor
  · rintro ⟨t, ht⟩ n hn
    by_contra hle
    rw [formExec_of_le hn (Nat.not_lt.mp hle)] at ht
    nomatch ht
  · intro hbound
    cases hf : formLaneBound i.form with
    | none =>
      obtain ⟨v, hv⟩ := formExec_of_unbounded hf s
      exact ⟨_, hv⟩
    | some n =>
      obtain ⟨v, hv⟩ | ⟨v, hv⟩ := formExec_of_lt hf (hbound n hf)
      · exact ⟨_, hv⟩
      · exact ⟨_, hv⟩

/-! ## Well-formed transactions -/

theorem wf_of_invalid {p : Inputs} (h : decode p.cmd = .invalid) : p.wf = false := by
  simp only [Inputs.wf, h]

/-- A transaction with a legal word is well formed when its lane index meets the bound of the command's form. -/
theorem wf_iff_of_command {p : Inputs} {i : Instr} (h : decode p.cmd = .command i) :
    p.wf = true ↔ ∀ n, formLaneBound i.form = some n → p.idx.toNat < n := by
  cases hf : formLaneBound i.form <;> simp [Inputs.wf, h, hf]

/-- Settles O9: on a reserved word both sides fail; on a legal one both say that the lane index meets the form's bound. -/
theorem wellFormedTransactionsAreExactlyThoseThatComplete :
    Obligations.WellFormedTransactionsAreExactlyThoseThatComplete := by
  intro s
  cases hd : decode s.inputs.cmd with
  | invalid => simp [step_of_invalid hd, wf_of_invalid hd]
  | command i => rw [stepRunsTheDecodedCommand s i hd, exec_completes_iff, wf_iff_of_command hd]

end Sys2Proof.Machine
end

section
/-! What a command reads of the input ports and what it leaves on all ports (10_state.md rules R20, R24, R26, R28 and R29). A
form with a vector result drives `R` with the lanes of its layout, the other drives `X`; a form reads its operands through
lanes below its lane count only, so it cannot see what `cut` removes. -/

namespace Sys2Proof.Machine

/-! ## The next states of a step, a command and a form -/

/-- A step with a next state is a legal word's command carried out. -/
theorem step_eq_next_iff {s t : State} :
    step s = .next t ↔ ∃ i : Instr, decode s.inputs.cmd = .command i ∧ exec i s = .next t := by
  cases hd : decode s.inputs.cmd with
  | invalid => simp [step_of_invalid hd]
  | command i => simp [stepRunsTheDecodedCommand s i hd]

theorem withLane_eq_next_iff {q : RegSize} {w : Nat} {s t : State} {rest : Nat → Host.Outcome State Fault Refusal} :
    withLane q w s rest = .next t ↔ s.inputs.idx.toNat < laneCount q w ∧ rest s.inputs.idx.toNat = .next t := by
  by_cases h : s.inputs.idx.toNat < laneCount q w
  · simp [withLane_of_lt h, h]
  · simp [withLane_of_le (Nat.not_lt.mp h), h]

theorem extractLane_eq_next_iff {q : RegSize} {u : Sign} {w : Width} {s t : State} :
    extractLane q u w s = .next t ↔ s.inputs.idx.toNat < laneCount q w.bits ∧
      t = { inputs := s.inputs, outputs := { r := 0, x := extend u 64 (lane w.bits s.inputs.a s.inputs.idx.toNat) } } := by
  rw [extractLane, withLane_eq_next_iff, driveX_eq_next_iff]

theorem insertLane_eq_next_iff {q : RegSize} {w : Width} {s t : State} :
    insertLane q w s = .next t ↔ s.inputs.idx.toNat < laneCount q w.bits ∧
      t = { inputs := s.inputs
            outputs := { r := pack w.bits (laneCount q w.bits) fun k =>
                           if k = s.inputs.idx.toNat then s.inputs.s.extractLsb' 0 w.bits else lane w.bits s.inputs.a k
                         x := 0 } } := by
  rw [insertLane, withLane_eq_next_iff, driveR_eq_next_iff]

/-- The next state of a form with a vector result: `R` holds packed lanes of its layout, `X` is zero, the inputs stay. -/
theorem formExec_next_of_layout {f : Form} {l : Layout} {s t : State} (hl : formLayout f = some l)
    (h : formExec f s = .next t) :
    ∃ g : Nat → BitVec l.resultWidth,
      t = { inputs := s.inputs, outputs := { r := pack l.resultWidth l.lanes g, x := 0 } } := by
  cases f with
  | extractLane => nomatch hl
  | insertLane q u w =>
    cases hl
    exact ⟨_, (insertLane_eq_next_iff.mp h).2⟩
  | _ =>
    cases hl
    exact ⟨_, (driveR_eq_next_iff ..).mp h⟩

/-- The next state of a form without a vector result: `R` is zero and the inputs stay. -/
theorem formExec_next_of_no_layout {f : Form} {s t : State} (hl : formLayout f = none) (h : formExec f s = .next t) :
    ∃ v : Scalar, t = { inputs := s.inputs, outputs := { r := 0, x := v } } := by
  cases f with
  | extractLane q u w =>
    exact ⟨_, (extractLane_eq_next_iff.mp h).2⟩
  | _ => nomatch hl

/-! ## Result ports -/

theorem resultPort_of_layout {f : Form} {l : Layout} (hl : formLayout f = some l) : f.resultPort = .r := by
  cases f with
  | extractLane => nomatch hl
  | _ => rfl

theorem resultPort_of_no_layout {f : Form} (hl : formLayout f = none) : f.resultPort = .x := by
  cases f with
  | extractLane => rfl
  | _ => nomatch hl

theorem resultPort_eq_x_iff {f : Form} :
    f.resultPort = .x ↔ ∃ (q : RegSize) (t : Sign) (w : Width), f = .extractLane q t w := by
  cases f <;> simp [Form.resultPort]

theorem form_eq_extractLane_iff {i : Instr} {q : RegSize} {t : Sign} {w : Width} :
    i.form = .extractLane q t w ↔ i = .ofExtractLane q t w := by
  constructor
  · intro h
    have hi := instr_form i
    rw [h] at hi
    exact (Option.some.inj hi).symm
  · rintro rfl
    exact form_instr rfl

/-- Every next state of a command keeps the inputs, and drives the port its form names and zero on the other. -/
theorem exec_next_cases {i : Instr} {s t : State} (h : exec i s = .next t) :
    t.inputs = s.inputs ∧
      (i.form.resultPort = .r ∧ t.outputs.x = 0 ∨ i.form.resultPort = .x ∧ t.outputs.r = 0) := by
  rw [exec_eq_formExec] at h
  cases hl : formLayout i.form with
  | some l =>
    obtain ⟨g, rfl⟩ := formExec_next_of_layout hl h
    exact ⟨rfl, .inl ⟨resultPort_of_layout hl, rfl⟩⟩
  | none =>
    obtain ⟨v, rfl⟩ := formExec_next_of_no_layout hl h
    exact ⟨rfl, .inr ⟨resultPort_of_no_layout hl, rfl⟩⟩

/-- Settles O15: a command has a vector layout or is an `extract_lane`, and drives its port accordingly. -/
theorem everyStepDrivesOneOutputPort : Obligations.EveryStepDrivesOneOutputPort := by
  refine ⟨fun i s t h => ?_, fun i => ?_, fun s t h => ?_⟩
  · obtain ⟨-, ⟨hp, hx⟩ | ⟨hp, hr⟩⟩ := exec_next_cases h
    · simp [hp, hx]
    · simp [hp, hr]
  · simp only [resultPort_eq_x_iff, form_eq_extractLane_iff]
  · obtain ⟨i, -, hexec⟩ := step_eq_next_iff.mp h
    obtain ⟨-, ⟨-, hx⟩ | ⟨-, hr⟩⟩ := exec_next_cases hexec
    · exact .inl hx
    · exact .inr hr

/-! ## The output ports of the state before are not read -/

/-- Both drive operations put new outputs in place of the old, and a form reads the inputs alone. -/
theorem formExec_congr_inputs (f : Form) {s s' : State} (h : s.inputs = s'.inputs) : formExec f s = formExec f s' := by
  obtain ⟨p, o⟩ := s
  obtain ⟨p', o'⟩ := s'
  obtain rfl : p = p' := h
  cases f <;> rfl

/-- Settles O12: on equal inputs both steps decode the same word and carry out the same form. -/
theorem resultIsAFunctionOfTheInputPorts : Obligations.ResultIsAFunctionOfTheInputPorts := by
  constructor
  · intro s s' h
    cases hd : decode s.inputs.cmd with
    | invalid =>
      have hd' : decode s'.inputs.cmd = .invalid := h ▸ hd
      rw [step_of_invalid hd, step_of_invalid hd', h]
    | command i =>
      have hd' : decode s'.inputs.cmd = .command i := h ▸ hd
      rw [stepRunsTheDecodedCommand s i hd, stepRunsTheDecodedCommand s' i hd', exec_eq_formExec, exec_eq_formExec,
        formExec_congr_inputs i.form h]
  · intro s t h
    obtain ⟨i, -, hexec⟩ := step_eq_next_iff.mp h
    obtain ⟨hinputs, -⟩ := exec_next_cases hexec
    exact hinputs

/-! ## The size of the vector result -/

/-- The result lanes of every layout fill a short or a full register (30_encoding.md rule R65). -/
theorem layout_fills_a_register {f : Form} {l : Layout} (hl : formLayout f = some l) :
    ∃ q : RegSize, l.lanes * l.resultWidth = q.bits := by
  cases f with
  | narrow _ w | narrowSat _ w | narrowSatun w =>
    cases hl
    exact ⟨.short, by cases w <;> rfl⟩
  | widen _ w =>
    cases hl
    exact ⟨.full, by cases w <;> rfl⟩
  | extractLane => nomatch hl
  | _ =>
    cases hl
    exact ⟨_, laneCount_mul_bits _ _⟩

/-- Settles O16: a packed register value is zero above the lanes of its layout. -/
theorem resultsFillTheirLayoutAndNoMore : Obligations.ResultsFillTheirLayoutAndNoMore := by
  intro i l hl
  constructor
  · obtain ⟨q, hq⟩ := layout_fills_a_register hl
    rw [hq]
    cases q with
    | short => exact .inl rfl
    | full => exact .inr rfl
  · intro s t h
    rw [exec_eq_formExec] at h
    obtain ⟨g, rfl⟩ := formExec_next_of_layout hl h
    exact pack_toNat_lt l.resultWidth l.lanes g

/-! ## Cut register values -/

theorem cut_getLsbD (q : RegSize) (v : Vec) (j : Nat) :
    (cut q v).getLsbD j = (decide (j < q.bits) && v.getLsbD j) := by
  rw [cut, BitVec.getLsbD_setWidth, BitVec.getLsbD_setWidth]
  by_cases hj : j < 128
  · simp [hj]
  · simp [hj, BitVec.getLsbD_of_ge v j (Nat.not_lt.mp hj)]

/-- A lane of a register of size `q` lies in the bits that cutting to that size keeps. -/
theorem lane_cut {q : RegSize} {w k : Nat} (v : Vec) (hk : k < laneCount q w) : lane w (cut q v) k = lane w v k := by
  apply BitVec.eq_of_getLsbD_eq
  intro j hj
  have hlanes : (k + 1) * w ≤ q.bits :=
    Nat.le_trans (Nat.mul_le_mul_right w hk) (Nat.div_mul_le_self q.bits w)
  rw [Nat.succ_mul] at hlanes
  have hbit : k * w + j < q.bits := by omega
  simp [lane_getLsbD, cut_getLsbD, hbit]

theorem lane_eq_of_cut_eq {q : RegSize} {w k : Nat} {u v : Vec} (h : cut q u = cut q v) (hk : k < laneCount q w) :
    lane w u k = lane w v k := by
  rw [← lane_cut u hk, h, lane_cut v hk]

/-! ## Shared operations on operands that agree at the size they are read -/

@[simp] theorem resultOf_driveR (s : State) (v : Vec) : resultOf (s.driveR v) = some { r := v, x := 0 } := rfl

@[simp] theorem resultOf_driveX (s : State) (v : Scalar) : resultOf (s.driveX v) = some { r := 0, x := v } := rfl

theorem mapLanes_congr_cut {q : RegSize} {w w' : Nat} (f : BitVec w → BitVec w') {a a' : Vec} (h : cut q a = cut q a') :
    mapLanes (laneCount q w) w w' f a = mapLanes (laneCount q w) w w' f a' :=
  pack_congr fun _ hk => congrArg f (lane_eq_of_cut_eq h hk)

theorem zipLanes_congr_cut {q : RegSize} {w : Nat} (f : BitVec w → BitVec w → BitVec w) {a a' b b' : Vec}
    (ha : cut q a = cut q a') (hb : cut q b = cut q b') :
    zipLanes (laneCount q w) w f a b = zipLanes (laneCount q w) w f a' b' :=
  pack_congr fun _ hk => congrArg₂ f (lane_eq_of_cut_eq ha hk) (lane_eq_of_cut_eq hb hk)

theorem resultOf_unaryOp_congr {q : RegSize} {w : Width} {f : BitVec w.bits → BitVec w.bits} {s s' : State}
    (ha : cut q s.inputs.a = cut q s'.inputs.a) : resultOf (unaryOp q w f s) = resultOf (unaryOp q w f s') := by
  rw [unaryOp, unaryOp, mapLanes_congr_cut f ha, resultOf_driveR, resultOf_driveR]

theorem resultOf_binaryOp_congr {q : RegSize} {w : Width} {f : BitVec w.bits → BitVec w.bits → BitVec w.bits}
    {s s' : State} (ha : cut q s.inputs.a = cut q s'.inputs.a) (hb : cut q s.inputs.b = cut q s'.inputs.b) :
    resultOf (binaryOp q w f s) = resultOf (binaryOp q w f s') := by
  rw [binaryOp, binaryOp, zipLanes_congr_cut f ha hb, resultOf_driveR, resultOf_driveR]

theorem resultOf_narrowingOp_congr {w : Width} {f : BitVec w.bits → BitVec (w.bits / 2)} {s s' : State}
    (ha : s.inputs.a = s'.inputs.a) : resultOf (narrowingOp w f s) = resultOf (narrowingOp w f s') := by
  rw [narrowingOp, narrowingOp, ha, resultOf_driveR, resultOf_driveR]

theorem resultOf_wideningOp_congr {w : Width} {f : BitVec w.bits → BitVec (2 * w.bits)} {s s' : State}
    (ha : cut .short s.inputs.a = cut .short s'.inputs.a) :
    resultOf (wideningOp w f s) = resultOf (wideningOp w f s') := by
  rw [wideningOp, wideningOp, mapLanes_congr_cut f ha, resultOf_driveR, resultOf_driveR]

/-! ## Lane access -/

/-- A scalar cut to the lane width has the same low lane (43_lane_access.md rule R135). -/
theorem scalar_low_eq_of_cut_eq {w : Width} {u v : Scalar}
    (h : (u.setWidth w.bits).setWidth 64 = (v.setWidth w.bits).setWidth 64) :
    u.extractLsb' 0 w.bits = v.extractLsb' 0 w.bits := by
  have hw : w.bits ≤ 64 := by cases w <;> decide
  have hlow := congrArg (BitVec.setWidth w.bits) h
  rw [BitVec.setWidth_setWidth_of_le _ hw, BitVec.setWidth_setWidth_of_le _ hw] at hlow
  simpa [← BitVec.setWidth_eq_extractLsb' hw] using hlow

theorem resultOf_extractLane_congr {q : RegSize} {t : Sign} {w : Width} {s s' : State}
    (ha : cut q s.inputs.a = cut q s'.inputs.a) (hidx : s.inputs.idx = s'.inputs.idx) :
    resultOf (extractLane q t w s) = resultOf (extractLane q t w s') := by
  by_cases hlt : s.inputs.idx.toNat < laneCount q w.bits
  · rw [extractLane_of_lt hlt, extractLane_of_lt (hidx ▸ hlt), resultOf_driveX, resultOf_driveX,
      lane_eq_of_cut_eq ha hlt, hidx]
  · have hle := Nat.not_lt.mp hlt
    rw [extractLane_of_le hle, extractLane_of_le (hidx ▸ hle), hidx]

theorem resultOf_insertLane_congr {q : RegSize} {w : Width} {s s' : State}
    (ha : cut q s.inputs.a = cut q s'.inputs.a)
    (hs : (s.inputs.s.setWidth w.bits).setWidth 64 = (s'.inputs.s.setWidth w.bits).setWidth 64)
    (hidx : s.inputs.idx = s'.inputs.idx) :
    resultOf (insertLane q w s) = resultOf (insertLane q w s') := by
  by_cases hlt : s.inputs.idx.toNat < laneCount q w.bits
  · rw [insertLane_of_lt hlt, insertLane_of_lt (hidx ▸ hlt), resultOf_driveR, resultOf_driveR,
      scalar_low_eq_of_cut_eq hs, hidx]
    congr 2
    exact pack_congr fun k hk => by rw [lane_eq_of_cut_eq ha hk]
  · have hle := Nat.not_lt.mp hlt
    rw [insertLane_of_le hle, insertLane_of_le (hidx ▸ hle), hidx]

/-! ## Table lookup -/

/-- Two sets of table ports hold the same bytes in the first `n` registers at size `q`. -/
def TablesAgree (n : TableCount) (q : RegSize) (p p' : Inputs) : Prop :=
  ∀ j, j < n.count → cut q (p.table j) = cut q (p'.table j)

theorem tablesAgree_of_cutTable {n : TableCount} {q : RegSize} {p p' : Inputs}
    (h0 : cutTable n q 0 p.t0 = cutTable n q 0 p'.t0) (h1 : cutTable n q 1 p.t1 = cutTable n q 1 p'.t1)
    (h2 : cutTable n q 2 p.t2 = cutTable n q 2 p'.t2) (h3 : cutTable n q 3 p.t3 = cutTable n q 3 p'.t3) :
    TablesAgree n q p p' := by
  intro j hj
  have hread (v : Vec) : cutTable n q j v = cut q v := if_pos hj
  have hcount : n.count ≤ 4 := by cases n <;> decide
  match j with
  | 0 => rwa [hread, hread] at h0
  | 1 => rwa [hread, hread] at h1
  | 2 => rwa [hread, hread] at h2
  | 3 => rwa [hread, hread] at h3
  | j + 4 => omega

/-- An index in range selects a byte of one of the first `n` registers (44_table_lookup.md rule R141). -/
theorem lookup_congr_tables {n : TableCount} {q : RegSize} {p p' : Inputs} (h : TablesAgree n q p p') (i : Nat)
    (fallback : BitVec 8) : lookup n q p i fallback = lookup n q p' i fallback := by
  unfold lookup
  split
  next hi =>
    have hbytes : 0 < byteCount q := by cases q <;> decide
    have hreg : i / byteCount q < n.count := Nat.div_lt_of_lt_mul (by rwa [Nat.mul_comm])
    exact lane_eq_of_cut_eq (h _ hreg) (Nat.mod_lt i hbytes)
  next => rfl

theorem resultOf_tbl_congr {n : TableCount} {q : RegSize} {s s' : State} (ha : cut q s.inputs.a = cut q s'.inputs.a)
    (ht : TablesAgree n q s.inputs s'.inputs) : resultOf (tbl n q s) = resultOf (tbl n q s') := by
  rw [tbl, tbl, resultOf_driveR, resultOf_driveR]
  congr 2
  exact pack_congr fun k hk => by rw [lane_eq_of_cut_eq ha hk, lookup_congr_tables ht]

theorem resultOf_tbx_congr {n : TableCount} {q : RegSize} {s s' : State} (ha : cut q s.inputs.a = cut q s'.inputs.a)
    (hb : cut q s.inputs.b = cut q s'.inputs.b) (ht : TablesAgree n q s.inputs s'.inputs) :
    resultOf (tbx n q s) = resultOf (tbx n q s') := by
  rw [tbx, tbx, resultOf_driveR, resultOf_driveR]
  congr 2
  exact pack_congr fun k hk => by rw [lane_eq_of_cut_eq ha hk, lane_eq_of_cut_eq hb hk, lookup_congr_tables ht]

/-! ## What a form reads is all that it sees -/

/-- The case split follows 30_encoding.md rule R65: each operand form asks agreement on the ports it reads. -/
theorem resultOf_formExec_congr (f : Form) {s s' : State} (h : formRead f s.inputs = formRead f s'.inputs) :
    resultOf (formExec f s) = resultOf (formExec f s') := by
  have ha := congrArg Inputs.a h
  have hb := congrArg Inputs.b h
  have hs := congrArg Inputs.s h
  have hidx := congrArg Inputs.idx h
  have ht0 := congrArg Inputs.t0 h
  have ht1 := congrArg Inputs.t1 h
  have ht2 := congrArg Inputs.t2 h
  have ht3 := congrArg Inputs.t3 h
  cases f with
  | satAdd | satSub | hadd | rhadd | hsub => exact resultOf_binaryOp_congr ha hb
  | satAbs | satNeg | qd => exact resultOf_unaryOp_congr ha
  | narrow | narrowSat | narrowSatun => exact resultOf_narrowingOp_congr ha
  | widen => exact resultOf_wideningOp_congr ha
  | extractLane => exact resultOf_extractLane_congr ha hidx
  | insertLane => exact resultOf_insertLane_congr ha hs hidx
  | tbl => exact resultOf_tbl_congr ha (tablesAgree_of_cutTable ht0 ht1 ht2 ht3)
  | tbx => exact resultOf_tbx_congr ha hb (tablesAgree_of_cutTable ht0 ht1 ht2 ht3)

/-- Settles O17: the results of a command are those of its form. -/
theorem unreadPortBitsHaveNoEffect : Obligations.UnreadPortBitsHaveNoEffect := by
  intro i s s' h
  rw [exec_eq_formExec, exec_eq_formExec]
  exact resultOf_formExec_congr i.form h

/-! ## Reset -/

theorem settled_of_refused {s : State} {r : Refusal} (h : step s = .refused r) : s.Settled := by
  intro t ht
  rw [h] at ht
  nomatch ht

/-- Settles O14: the command word of the reset state is reserved, and a state whose step is refused is settled. -/
theorem resetIsSettledAndPlacesNoCommand : Obligations.ResetIsSettledAndPlacesNoCommand := by
  have hreserved : decode State.reset.inputs.cmd = .invalid := by decide
  have hrefused := step_of_invalid hreserved
  exact ⟨settled_of_refused hrefused, hrefused⟩

end Sys2Proof.Machine
end

section
/-! What a transaction leaves to the next one (20_memory.md rules R45 and R46): carried out again it changes nothing, and the
answer to the next does not depend on it. Both come from the step reading the input ports only (10_state.md rule R20). -/

namespace Sys2Proof.Machine

/-! ## A transaction carried out once more -/

/-- The step reads the input ports, and leaves them as they were for the next. -/
theorem step_of_step_eq_next {s t : State} (h : step s = .next t) : step t = .next t := by
  obtain ⟨hreads, hkeeps⟩ := resultIsAFunctionOfTheInputPorts
  calc step t = step s := hreads t s (hkeeps s t h)
    _ = .next t := h

/-- A state whose step completes is settled exactly when the step leads back to it. -/
theorem settled_iff_of_step_eq_next {s t : State} (h : step s = .next t) : s.Settled ↔ t = s := by
  constructor
  · intro hs
    exact hs t h
  · rintro rfl u hu
    rw [h] at hu
    exact (Host.Outcome.next.inj hu).symm

/-- Settles O13: the state after a step leads back to itself. -/
theorem everyStepLeavesASettledState : Obligations.EveryStepLeavesASettledState := by
  intro s t h
  have hagain : step t = .next t := step_of_step_eq_next h
  exact ⟨(settled_iff_of_step_eq_next hagain).mpr rfl, (settled_iff_of_step_eq_next h).mp⟩

/-! ## A list of transactions -/

/-- Presenting a transaction drives every input port, so nothing the step reads is left of the state before. -/
theorem respond_eq_of_any_state (s s' : State) (p : Inputs) : respond s p = respond s' p := by
  obtain ⟨hreads, -⟩ := resultIsAFunctionOfTheInputPorts
  have hstep : step (s.present p) = step (s'.present p) := hreads _ _ rfl
  rw [respond, respond, hstep]

theorem serve_eq_map_respond (s s' : State) (ps : List Inputs) : serve s ps = ps.map (respond s') := by
  induction ps generalizing s with
  | nil => rfl
  | cons p ps ih => rw [serve, List.map_cons, respond_eq_of_any_state s s' p, ih]

/-- The transactions of a session paired with their answers, each answered alone. -/
theorem zip_serve (s s' : State) (ps : List Inputs) :
    ps.zip (serve s ps) = ps.map fun p => (p, respond s' p) := by
  rw [serve_eq_map_respond s s', List.map_prod_left_eq_zip]

/-- Settles O19: each answer is a function of its own transaction, and a map keeps permutations. -/
theorem sessionsAnswerEveryTransactionAlone : Obligations.SessionsAnswerEveryTransactionAlone := by
  refine ⟨serve_eq_map_respond, fun s s' ps ps' hperm => ?_⟩
  rw [zip_serve s s', zip_serve s' s']
  exact hperm.map _

end Sys2Proof.Machine
end

section
/-! The command word and its fields (30_encoding.md rules R55 to R63): a word is its fields, the decoder's reading of the
fields and the encoder's writing of them are inverse to each other, and the forms so read with a legal lane width are those
of the commands. -/

namespace Sys2Proof

open Machine

/-! ## The word and its fields (30_encoding.md rule R55) -/

/-- The command word of the given fields: each stands at its place. -/
def Fields.word (F : Fields) : Command :=
  BitVec.ofNat 16 (F.unit.toNat * 2 ^ 12 + F.fn.toNat * 2 ^ 8 + F.q.toNat * 2 ^ 7 + F.u.toNat * 2 ^ 6 +
    F.sz.toNat * 2 ^ 4 + F.nr.toNat * 2 ^ 2 + F.zero.toNat)

@[simp] theorem Fields.word_ofWord (c : Command) : (Fields.ofWord c).word = c := by
  apply BitVec.eq_of_toNat_eq
  simp only [Fields.word, Fields.ofWord, BitVec.extractLsb'_toNat, BitVec.toNat_ofNat, Nat.shiftRight_eq_div_pow]
  omega

@[simp] theorem Fields.ofWord_word (F : Fields) : Fields.ofWord F.word = F := by
  obtain ⟨unit, fn, q, u, sz, nr, zero⟩ := F
  simp only [Fields.ofWord, Fields.mk.injEq, ← BitVec.toNat_inj, Fields.word, BitVec.extractLsb'_toNat,
    BitVec.toNat_ofNat, Nat.shiftRight_eq_div_pow]
  omega

theorem Fields.ofWord_injective : Function.Injective Fields.ofWord :=
  Function.LeftInverse.injective Fields.word_ofWord

theorem Fields.word_injective : Function.Injective Fields.word :=
  Function.LeftInverse.injective Fields.ofWord_word

/-! ## The codes of one field (30_encoding.md rules R58 to R61) -/

/-- The `q` bit of a register size, as the encoder writes it. -/
def RegSize.field (q : RegSize) : BitVec 1 :=
  BitVec.ofNat 1 q.code

theorem RegSize.ofBit_eq_iff {b : BitVec 1} {q : RegSize} : RegSize.ofBit b = q ↔ b = q.field := by
  revert b
  cases q <;> decide

@[simp] theorem RegSize.ofBit_field (q : RegSize) : RegSize.ofBit q.field = q :=
  ofBit_eq_iff.mpr rfl

@[simp] theorem RegSize.field_short : RegSize.short.field = 0 :=
  rfl

/-- The `u` bit of a type letter, as the encoder writes it. -/
def Sign.field (t : Sign) : BitVec 1 :=
  BitVec.ofNat 1 t.code

theorem Sign.ofBit_eq_iff {b : BitVec 1} {t : Sign} : Sign.ofBit b = t ↔ b = t.field := by
  revert b
  cases t <;> decide

@[simp] theorem Sign.ofBit_field (t : Sign) : Sign.ofBit t.field = t :=
  ofBit_eq_iff.mpr rfl

@[simp] theorem Sign.field_signed : Sign.signed.field = 0 :=
  rfl

/-- The `sz` field of a lane width, as the encoder writes it. -/
def Width.field (w : Width) : BitVec 2 :=
  BitVec.ofNat 2 w.code

theorem Width.ofBits_eq_iff {b : BitVec 2} {w : Width} : Width.ofBits b = w ↔ b = w.field := by
  revert b
  cases w <;> decide

@[simp] theorem Width.ofBits_field (w : Width) : Width.ofBits w.field = w :=
  ofBits_eq_iff.mpr rfl

/-- The `nr` field of a table count, as the encoder writes it. -/
def TableCount.field (n : TableCount) : BitVec 2 :=
  BitVec.ofNat 2 n.code

theorem TableCount.ofBits_eq_iff {b : BitVec 2} {n : TableCount} : TableCount.ofBits b = n ↔ b = n.field := by
  revert b
  cases n <;> decide

@[simp] theorem TableCount.ofBits_field (n : TableCount) : TableCount.ofBits n.field = n :=
  ofBits_eq_iff.mpr rfl

/-! ## The fields of a form -/

/-- The fields of a command without table registers. -/
def commandFields (unit fn : BitVec 4) (q : RegSize) (t : Sign) (w : Width) : Fields where
  unit := unit
  fn := fn
  q := q.field
  u := t.field
  sz := w.field
  nr := 0
  zero := 0

/-- The fields of a table lookup, over byte lanes. -/
def tableFields (fn : BitVec 4) (n : TableCount) (q : RegSize) (t : Sign) : Fields where
  unit := 10
  fn := fn
  q := q.field
  u := t.field
  sz := 0
  nr := n.field
  zero := 0

/-- The fields of a form's command word, with the unit and function codes of 30_encoding.md rule R56. -/
def Form.fields : Form → Fields
  | .satAdd q t w => commandFields 1 0 q t w
  | .satSub q t w => commandFields 2 0 q t w
  | .satAbs q t w => commandFields 3 0 q t w
  | .satNeg q t w => commandFields 3 1 q t w
  | .hadd q t w => commandFields 4 0 q t w
  | .rhadd q t w => commandFields 4 1 q t w
  | .hsub q t w => commandFields 5 0 q t w
  | .narrow t w => commandFields 6 0 .short t w
  | .narrowSat t w => commandFields 6 1 .short t w
  | .narrowSatun w => commandFields 6 2 .short .signed w
  | .widen t w => commandFields 7 0 .short t w
  | .extractLane q t w => commandFields 8 0 q t w
  | .insertLane q t w => commandFields 9 0 q t w
  | .tbl n q t => tableFields 0 n q t
  | .tbx n q t => tableFields 1 n q t
  | .qd q w => commandFields 11 0 q .signed w

/-- The encoder writes the fields of the form at their places. -/
theorem Form.ofWord_word (f : Form) : Fields.ofWord f.word = f.fields := by
  cases f with
  | satAdd q t w | satSub q t w | satAbs q t w | satNeg q t w | hadd q t w | rhadd q t w | hsub q t w
  | extractLane q t w | insertLane q t w => cases q <;> cases t <;> cases w <;> rfl
  | narrow t w | narrowSat t w | widen t w => cases t <;> cases w <;> rfl
  | narrowSatun w => cases w <;> rfl
  | tbl n q t | tbx n q t => cases n <;> cases q <;> cases t <;> rfl
  | qd q w => cases q <;> cases w <;> rfl

/-- The decoder reads the fields of a form as that form. -/
theorem Form.form_fields (f : Form) : f.fields.form = some f := by
  cases f <;> simp [Form.fields, commandFields, tableFields, Fields.form]

/-- On each of the sixteen branches of the decoder that name a form, every field is either tested against the code of the
operation or read into the form. -/
theorem Fields.eq_fields_of_form {F : Fields} {f : Form} (h : F.form = some f) : F = f.fields := by
  obtain ⟨unit, fn, q, u, sz, nr, zero⟩ := F
  cases f
  all_goals
    simp [Fields.form, ite_eq_iff, RegSize.ofBit_eq_iff, Sign.ofBit_eq_iff, Width.ofBits_eq_iff,
      TableCount.ofBits_eq_iff] at h
    simp [Form.fields, commandFields, tableFields, h]

theorem Fields.form_eq_some_iff {F : Fields} {f : Form} : F.form = some f ↔ F = f.fields := by
  constructor
  · exact Fields.eq_fields_of_form
  · rintro rfl
    exact f.form_fields

/-! ## The commands among the forms (30_encoding.md rule R60) -/

/-- A form has a command exactly when its operation admits its lane width. -/
theorem Form.isSome_instr (f : Form) : f.instr.isSome = f.wf := by
  cases f with
  | narrow t w | narrowSat t w | widen t w => cases t <;> cases w <;> rfl
  | narrowSatun w => cases w <;> rfl
  | _ => rfl

theorem Instr.wf_eq_true (i : Instr) : i.wf = true := by
  rw [Instr.wf, ← Form.isSome_instr, instr_form, Option.isSome_some]

theorem Form.instr_eq_some_iff {f : Form} {i : Instr} : f.instr = some i ↔ i.form = f := by
  constructor
  · exact form_instr
  · rintro rfl
    exact instr_form i

/-! ## Decoding and encoding (30_encoding.md rule R69) -/

theorem decode_eq_command_iff_form {c : Command} {i : Instr} :
    decode c = .command i ↔ (Fields.ofWord c).form = some i.form := by
  simp [decode_eq_command_iff, Option.bind_eq_some_iff, Form.instr_eq_some_iff]

/-- The decoder and the encoder are inverse to each other. -/
theorem decode_eq_command_iff_encode {c : Command} {i : Instr} : decode c = .command i ↔ c = encode i := by
  rw [decode_eq_command_iff_form, Fields.form_eq_some_iff, ← Form.ofWord_word, Fields.ofWord_injective.eq_iff, encode]

theorem decode_encode (i : Instr) : decode (encode i) = .command i :=
  decode_eq_command_iff_encode.mpr rfl

/-- Settles O1: every form of a command is well formed, and the decoder is the inverse of the encoder. -/
theorem encodedCommandsDecodeToThemselves : Obligations.EncodedCommandsDecodeToThemselves :=
  fun i => ⟨i.wf_eq_true, decode_encode i⟩

/-- Settles O2: the decoder is the inverse of the encoder. -/
theorem everyDecodedWordIsItsCommandsEncoding : Obligations.EveryDecodedWordIsItsCommandsEncoding :=
  fun _ _ h => decode_eq_command_iff_encode.mp h

/-! ## Legal fields (30_encoding.md rules R62 and R63) -/

theorem LegalRow.admits_iff {r : LegalRow} {F : Fields} : r.admits F = true ↔
    F.unit = r.unit ∧ F.fn = r.fn ∧ F.q ∈ r.qs ∧ F.u ∈ r.us ∧ F.sz ∈ r.szs ∧ F.nr ∈ r.nrs := by
  simp [LegalRow.admits, and_assoc]

theorem Fields.legal_iff {F : Fields} : F.legal = true ↔ F.zero = 0 ∧ ∃ r ∈ legalRows, r.admits F = true := by
  simp [Fields.legal]

/-- The fields of a form are legal exactly when its operation admits its lane width. -/
theorem Form.legal_fields (f : Form) : f.fields.legal = f.wf := by
  cases f with
  | satAdd q t w | satSub q t w | satAbs q t w | satNeg q t w | hadd q t w | rhadd q t w | hsub q t w
  | extractLane q t w | insertLane q t w => cases q <;> cases t <;> cases w <;> rfl
  | narrow t w | narrowSat t w | widen t w => cases t <;> cases w <;> rfl
  | narrowSatun w => cases w <;> rfl
  | tbl n q t | tbx n q t => cases n <;> cases q <;> cases t <;> rfl
  | qd q w => cases q <;> cases w <;> rfl

/-- The decoder has a branch for every row of the table. -/
theorem Fields.exists_form_of_admits {F : Fields} {r : LegalRow} (hzero : F.zero = 0) (hr : r ∈ legalRows)
    (h : r.admits F = true) : ∃ f : Form, F.form = some f := by
  obtain ⟨hunit, hfn, hq, hu, hsz, hnr⟩ := LegalRow.admits_iff.mp h
  fin_cases hr
  all_goals
    simp only [List.mem_cons, List.not_mem_nil, or_false] at hunit hfn hq hu hsz hnr
    simp [Fields.form, *]

/-- Legal fields are those the decoder reads as the form of a command. -/
theorem Fields.legal_iff_exists_instr {F : Fields} : F.legal = true ↔ ∃ i : Instr, F.form = some i.form := by
  constructor
  · intro h
    obtain ⟨hzero, r, hr, hadmits⟩ := Fields.legal_iff.mp h
    obtain ⟨f, hf⟩ := Fields.exists_form_of_admits hzero hr hadmits
    have hwf : f.wf = true := by rw [← f.legal_fields, ← Fields.eq_fields_of_form hf, h]
    obtain ⟨i, hi⟩ := Option.isSome_iff_exists.mp (f.isSome_instr.trans hwf)
    exact ⟨i, form_instr hi ▸ hf⟩
  · rintro ⟨i, hi⟩
    rw [Fields.eq_fields_of_form hi, Form.legal_fields]
    exact i.wf_eq_true

theorem decode_ne_invalid_iff {c : Command} : decode c ≠ .invalid ↔ ∃ i : Instr, decode c = .command i := by
  cases decode c <;> simp

/-- The decoder accepts a word exactly when its fields are legal. -/
theorem decode_ne_invalid_iff_legal {c : Command} : decode c ≠ .invalid ↔ (Fields.ofWord c).legal = true := by
  simp only [decode_ne_invalid_iff, decode_eq_command_iff_form, Fields.legal_iff_exists_instr]

theorem decode_eq_invalid_iff {c : Command} : decode c = .invalid ↔ (Fields.ofWord c).legal = false := by
  rw [← Bool.not_eq_true, ← decode_ne_invalid_iff_legal, not_not]

/-- Settles O6: legal fields are read as the form of a command, and the decoder answers that command. -/
theorem wordIsLegalExactlyWhenItsFieldsMatchARow : Obligations.WordIsLegalExactlyWhenItsFieldsMatchARow := by
  intro c
  constructor
  · intro h
    obtain ⟨i, hi⟩ := Fields.legal_iff_exists_instr.mp h
    exact ⟨i, decode_eq_command_iff_form.mpr hi, hi⟩
  · exact decode_eq_invalid_iff.mpr

/-- Settles O7: each legal sample is the word of the command the spec names, and no row admits the fields of a reserved
one. -/
theorem sampleWordsDecodeAsTheTableSays : Obligations.SampleWordsDecodeAsTheTableSays := by
  refine ⟨decode_encode .satAddQU64, decode_encode .satSubS8, decode_encode .satNegS8, decode_encode .rhaddQU16,
    decode_encode .hsubS8, decode_encode .narrowSatunS32, decode_encode .widenS8, decode_encode .extractLaneQU16,
    decode_encode .insertLaneU64, decode_encode .tbx3QU8, decode_encode .qdS64, ?_, ?_, ?_, ?_, ?_, ?_⟩
  all_goals exact decode_eq_invalid_iff.mpr rfl

end Sys2Proof
end

section
/-! The table of legal commands as a list (30_encoding.md rules R63 and R64): the fields each row admits, no two rows
admitting the same, and the words of all rows. -/

namespace Sys2Proof

/-! ## Rows do not overlap -/

/-- The two rows differ in the unit, the function code or the type letters they admit. -/
abbrev LegalRow.Apart (r r' : LegalRow) : Prop :=
  r.unit ≠ r'.unit ∨ r.fn ≠ r'.fn ∨ ∀ u ∈ r.us, u ∉ r'.us

theorem LegalRow.Apart.not_both_admit {r r' : LegalRow} (h : r.Apart r') (F : Fields) :
    ¬(r.admits F = true ∧ r'.admits F = true) := by
  rintro ⟨hr, hr'⟩
  obtain ⟨hunit, hfn, -, hu, -, -⟩ := LegalRow.admits_iff.mp hr
  obtain ⟨hunit', hfn', -, hu', -, -⟩ := LegalRow.admits_iff.mp hr'
  obtain hne | hne | hdisj := h
  · exact hne (hunit.symm.trans hunit')
  · exact hne (hfn.symm.trans hfn')
  · exact hdisj F.u hu hu'

theorem legalRows_pairwise_apart : legalRows.Pairwise LegalRow.Apart := by
  decide

theorem sum_count_legalRows : (legalRows.map LegalRow.count).sum = 205 := by
  decide

/-- Settles O4: any two rows differ in a field. -/
theorem rowsOfTheLegalTableNeverOverlap : Obligations.RowsOfTheLegalTableNeverOverlap :=
  ⟨legalRows_pairwise_apart.imp LegalRow.Apart.not_both_admit, sum_count_legalRows⟩

/-! ## The fields a row admits -/

/-- The fields with bits `[1:0]` zero that the row admits, one for each choice of `q`, `u`, `sz` and `nr`. -/
def LegalRow.fields (r : LegalRow) : List Fields :=
  (r.qs ×ˢ r.us ×ˢ r.szs ×ˢ r.nrs).map fun (q, u, sz, nr) =>
    { unit := r.unit, fn := r.fn, q := q, u := u, sz := sz, nr := nr, zero := 0 }

theorem LegalRow.mem_fields {r : LegalRow} {F : Fields} : F ∈ r.fields ↔ F.zero = 0 ∧ r.admits F = true := by
  obtain ⟨unit, fn, q, u, sz, nr, zero⟩ := F
  simp only [LegalRow.fields, LegalRow.admits_iff, List.mem_map, Prod.exists, List.mem_product, Fields.mk.injEq]
  constructor
  · rintro ⟨_, _, _, _, ⟨hq, hu, hsz, hnr⟩, rfl, rfl, rfl, rfl, rfl, rfl, rfl⟩
    exact ⟨rfl, rfl, rfl, hq, hu, hsz, hnr⟩
  · rintro ⟨rfl, rfl, rfl, hq, hu, hsz, hnr⟩
    exact ⟨q, u, sz, nr, ⟨hq, hu, hsz, hnr⟩, rfl, rfl, rfl, rfl, rfl, rfl, rfl⟩

theorem LegalRow.length_fields (r : LegalRow) : r.fields.length = r.count := by
  simp [LegalRow.fields, LegalRow.count, List.length_product, Nat.mul_assoc]

theorem LegalRow.nodup_fields {r : LegalRow} (hq : r.qs.Nodup) (hu : r.us.Nodup) (hsz : r.szs.Nodup)
    (hnr : r.nrs.Nodup) : r.fields.Nodup := by
  refine (hq.product (hu.product (hsz.product hnr))).map ?_
  rintro ⟨q, u, sz, nr⟩ ⟨q', u', sz', nr'⟩ h
  simpa using h

/-! ## The legal words -/

/-- The fields of all legal words, row by row. -/
def legalFields : List Fields :=
  legalRows.flatMap LegalRow.fields

/-- The legal words, row by row. -/
def legalWords : List Command :=
  legalFields.map Fields.word

theorem mem_legalFields {F : Fields} : F ∈ legalFields ↔ F.legal = true := by
  simp only [legalFields, List.mem_flatMap, LegalRow.mem_fields, Fields.legal_iff]
  constructor
  · rintro ⟨r, hr, hzero, h⟩
    exact ⟨hzero, r, hr, h⟩
  · rintro ⟨hzero, r, hr, h⟩
    exact ⟨r, hr, hzero, h⟩

theorem length_legalFields : legalFields.length = 205 := by
  simp only [legalFields, List.length_flatMap, LegalRow.length_fields]
  exact sum_count_legalRows

theorem nodup_legalFields : legalFields.Nodup := by
  refine List.nodup_flatMap.mpr ⟨fun r hr => ?_, ?_⟩
  · fin_cases hr <;> exact LegalRow.nodup_fields (by decide) (by decide) (by decide) (by decide)
  · refine legalRows_pairwise_apart.imp fun hapart F hF hF' => hapart.not_both_admit F ?_
    exact ⟨(LegalRow.mem_fields.mp hF).2, (LegalRow.mem_fields.mp hF').2⟩

theorem mem_legalWords {c : Command} : c ∈ legalWords ↔ decode c ≠ .invalid := by
  rw [decode_ne_invalid_iff_legal, ← mem_legalFields, legalWords]
  constructor
  · rw [List.mem_map]
    rintro ⟨F, hF, rfl⟩
    rwa [Fields.ofWord_word]
  · intro h
    exact Fields.word_ofWord c ▸ List.mem_map_of_mem h

/-- Settles O5: the words of the rows of the table, each field tuple being one word. -/
theorem exactlyTwoHundredFiveWordsAreLegal : Obligations.ExactlyTwoHundredFiveWordsAreLegal := by
  refine ⟨legalWords, nodup_legalFields.map Fields.word_injective, ?_, fun c => mem_legalWords.symm, ?_, ?_⟩
  · rw [legalWords, List.length_map, length_legalFields]
  · rw [mem_legalWords, not_not]
    exact decode_eq_invalid_iff.mpr rfl
  · rw [mem_legalWords, not_not]
    exact decode_eq_invalid_iff.mpr rfl

end Sys2Proof
end

section
/-! The mnemonics (30_encoding.md rules R67 and R71). Read from its last character, a mnemonic gives back the lane width and
the type letter, the `q` of a full register, and the operation: reading undoes spelling, so no two forms are spelled alike. -/

namespace Sys2Proof

open Machine

/-! ## Reading a mnemonic -/

/-- The type letter and lane width a mnemonic ends in, and what stands before the `_`, all from the last character on. -/
def readType : List Char → Option (Sign × Width × List Char)
  | '8' :: 's' :: '_' :: cs => some (.signed, .w8, cs)
  | '6' :: '1' :: 's' :: '_' :: cs => some (.signed, .w16, cs)
  | '2' :: '3' :: 's' :: '_' :: cs => some (.signed, .w32, cs)
  | '4' :: '6' :: 's' :: '_' :: cs => some (.signed, .w64, cs)
  | '8' :: 'u' :: '_' :: cs => some (.unsigned, .w8, cs)
  | '6' :: '1' :: 'u' :: '_' :: cs => some (.unsigned, .w16, cs)
  | '2' :: '3' :: 'u' :: '_' :: cs => some (.unsigned, .w32, cs)
  | '4' :: '6' :: 'u' :: '_' :: cs => some (.unsigned, .w64, cs)
  | _ => none

/-- The register size and the operation of what stands before the `_`, from its last character on. -/
def readSize : List Char → RegSize × List Char
  | 'q' :: cs => (.full, cs)
  | cs => (.short, cs)

/-- The form of an operation as it is spelled, with the digit of a table lookup. -/
def Form.ofOperation (op : String) (q : RegSize) (t : Sign) (w : Width) : Option Form :=
  match op with
  | "sat_add" => some (.satAdd q t w)
  | "sat_sub" => some (.satSub q t w)
  | "sat_abs" => some (.satAbs q t w)
  | "sat_neg" => some (.satNeg q t w)
  | "hadd" => some (.hadd q t w)
  | "rhadd" => some (.rhadd q t w)
  | "hsub" => some (.hsub q t w)
  | "narrow" => some (.narrow t w)
  | "narrow_sat" => some (.narrowSat t w)
  | "narrow_satun" => some (.narrowSatun w)
  | "widen" => some (.widen t w)
  | "extract_lane" => some (.extractLane q t w)
  | "insert_lane" => some (.insertLane q t w)
  | "tbl1" => some (.tbl .one q t)
  | "tbl2" => some (.tbl .two q t)
  | "tbl3" => some (.tbl .three q t)
  | "tbl4" => some (.tbl .four q t)
  | "tbx1" => some (.tbx .one q t)
  | "tbx2" => some (.tbx .two q t)
  | "tbx3" => some (.tbx .three q t)
  | "tbx4" => some (.tbx .four q t)
  | "qd" => some (.qd q w)
  | _ => none

/-- The form that a mnemonic spells. -/
def Form.ofMnemonic (m : String) : Option Form :=
  (readType m.toList.reverse).bind fun (t, w, cs) =>
    Form.ofOperation (String.ofList (readSize cs).2.reverse) (readSize cs).1 t w

/-! ## Reading undoes spelling -/

theorem readType_reverse (t : Sign) (w : Width) (cs : List Char) :
    readType (cs ++ '_' :: (t.letter.toList ++ w.letters.toList)).reverse = some (t, w, cs.reverse) := by
  cases t <;> cases w <;> simp [readType, Sign.letter, Width.letters]

/-- An operation that does not itself end in `q` is told from the `q` of a full register. -/
theorem readSize_reverse (q : RegSize) {op : List Char} (hop : op.getLast? ≠ some 'q') :
    readSize (op ++ q.letter.toList).reverse = (q, op.reverse) := by
  cases q with
  | full => simp [readSize, RegSize.letter]
  | short =>
    rw [← List.head?_reverse] at hop
    rw [RegSize.letter, String.toList_empty, List.append_nil]
    unfold readSize
    split
    next h => simp [h] at hop
    next => rfl

theorem Form.ofMnemonic_spell {op : String} (q : RegSize) (t : Sign) (w : Width) (hop : op.toList.getLast? ≠ some 'q') :
    Form.ofMnemonic (spell op q t w) = Form.ofOperation op q t w := by
  have hchars : (spell op q t w).toList =
      (op.toList ++ q.letter.toList) ++ '_' :: (t.letter.toList ++ w.letters.toList) := by
    simp [spell]
  simp only [Form.ofMnemonic, hchars, readType_reverse, Option.bind_some, readSize_reverse q hop, List.reverse_reverse,
    String.ofList_toList]

theorem Form.ofMnemonic_mnemonic (f : Form) : Form.ofMnemonic f.mnemonic = some f := by
  cases f with
  | tbl n q t | tbx n q t => cases n <;> exact Form.ofMnemonic_spell _ _ _ (by decide)
  | _ => exact Form.ofMnemonic_spell _ _ _ (by decide)

/-! ## Commands and mnemonics -/

theorem Form.mnemonic_injective : Function.Injective Form.mnemonic := by
  intro f f' h
  have hread := congrArg Form.ofMnemonic h
  rw [Form.ofMnemonic_mnemonic, Form.ofMnemonic_mnemonic] at hread
  exact Option.some.inj hread

theorem Instr.form_injective : Function.Injective Instr.form := by
  intro i j h
  exact Option.some.inj (instr_form i ▸ h ▸ instr_form j)

theorem Instr.mnemonic_injective : Function.Injective Instr.mnemonic :=
  Form.mnemonic_injective.comp Instr.form_injective

/-- Settles O3: a mnemonic names one command, and a legal word is the encoding of the command it decodes to. -/
theorem mnemonicsAndLegalWordsCorrespond : Obligations.MnemonicsAndLegalWordsCorrespond := by
  refine ⟨fun i j h => Instr.mnemonic_injective h, fun c hc => ?_⟩
  obtain ⟨i, hi⟩ := decode_ne_invalid_iff.mp hc
  refine ⟨i, hi, fun j hj => ?_⟩
  rw [Instr.mnemonic_injective hj]
  exact (decode_eq_command_iff_encode.mp hi).symm

end Sys2Proof
end

section
/-! Saturating add, subtract, absolute value and negate (40_saturating.md rules R80 to R89). The law of each operation on one
lane is proved over the integers first. A command then drives in every lane what its law says, since the word and the meaning
of a command are those of its form. -/

namespace Sys2Proof.Machine

/-! ## The command of a form -/

theorem decode_word_of_instr {f : Form} {i : Instr} (h : f.instr = some i) : decode f.word = .command i := by
  rw [← form_instr h]
  exact decode_encode i

theorem exec_of_instr {f : Form} {i : Instr} (h : f.instr = some i) (s : State) : exec i s = formExec f s := by
  rw [exec_eq_formExec, form_instr h]

theorem exec_ofSatAdd (q : RegSize) (t : Sign) (w : Width) (s : State) :
    exec (.ofSatAdd q t w) s = binaryOp q w (satAdd t) s :=
  exec_of_instr (f := .satAdd q t w) rfl s

theorem exec_ofSatSub (q : RegSize) (t : Sign) (w : Width) (s : State) :
    exec (.ofSatSub q t w) s = binaryOp q w (satSub t) s :=
  exec_of_instr (f := .satSub q t w) rfl s

theorem exec_ofSatAbs (q : RegSize) (t : Sign) (w : Width) (s : State) :
    exec (.ofSatAbs q t w) s = unaryOp q w (satAbs t) s :=
  exec_of_instr (f := .satAbs q t w) rfl s

theorem exec_ofSatNeg (q : RegSize) (t : Sign) (w : Width) (s : State) :
    exec (.ofSatNeg q t w) s = unaryOp q w (satNeg t) s :=
  exec_of_instr (f := .satNeg q t w) rfl s

/-! ## The clamp -/

/-- A clamp to a range that is not empty takes the lesser with the upper bound, then the greater with the lower. -/
theorem clamp_eq_max_min (i : Int) {lo hi : Int} (h : lo ≤ hi) : clamp i lo hi = max lo (min hi i) := by
  unfold clamp
  split
  · omega
  · split <;> omega

theorem clamp_of_le {i lo hi : Int} (h : i ≤ lo) (hrange : lo ≤ hi) : clamp i lo hi = lo := by
  rw [clamp_eq_max_min i hrange]
  omega

theorem clamp_of_ge {i lo hi : Int} (h : hi ≤ i) (hrange : lo ≤ hi) : clamp i lo hi = hi := by
  rw [clamp_eq_max_min i hrange]
  omega

/-- The law of R80 for any exact result: what the lane holds is the result clamped, with nothing lost. -/
theorem intOf_saturate_eq_max_min (t : Sign) (w : Width) (i : Int) :
    intOf t (saturate t w.bits i) = max (laneMin t w.bits) (min (laneMax t w.bits) i) := by
  rw [intOf_saturate (width_bits_pos w), clamp_eq_max_min i (laneMin_le_laneMax t w.bits)]

/-! ## The laws on one lane -/

theorem satAbs_eq_saturate_abs (t : Sign) {w : Nat} (a : BitVec w) : satAbs t a = saturate t w |intOf t a| := by
  unfold satAbs
  split
  next h => rw [abs_of_neg h]
  next h => rw [abs_of_nonneg (Int.not_lt.mp h)]

theorem intOf_satAbs (t : Sign) (w : Width) (a : BitVec w.bits) :
    intOf t (satAbs t a) = max (laneMin t w.bits) (min (laneMax t w.bits) |intOf t a|) := by
  rw [satAbs_eq_saturate_abs, intOf_saturate_eq_max_min]

/-- Settles O50: each operation saturates its exact result, and a saturated result read back is the clamped one. -/
theorem saturatingResultsAreTheClampedIntegers : Obligations.SaturatingResultsAreTheClampedIntegers := by
  intro w t a b
  refine ⟨?add, ?sub, ?neg, intOf_satAbs t w a⟩
  case add => exact intOf_saturate_eq_max_min t w (intOf t a + intOf t b)
  case sub => exact intOf_saturate_eq_max_min t w (intOf t a - intOf t b)
  case neg => exact intOf_saturate_eq_max_min t w (-intOf t a)

/-- Neither the magnitude nor `SMAX`, which bounds it, is below zero. -/
theorem intOf_satAbs_signed_nonneg (w : Width) (a : BitVec w.bits) : 0 ≤ intOf .signed (satAbs .signed a) := by
  have hmax : 0 ≤ laneMax .signed w.bits := by cases w <;> decide
  rw [intOf_satAbs]
  exact le_max_of_le_right (le_min hmax (abs_nonneg _))

/-- An unsigned lane is its own magnitude, and in range (40_saturating.md rule R87). -/
theorem satAbs_unsigned {w : Nat} (a : BitVec w) : satAbs .unsigned a = a := by
  have habs : |intOf .unsigned a| = intOf .unsigned a := abs_of_nonneg (laneMin_le_intOf .unsigned a)
  rw [satAbs_eq_saturate_abs, habs, saturate_of_mem (laneMin_le_intOf _ a) (intOf_le_laneMax _ a), truncTo_intOf]

/-- The negation of an unsigned lane is not above the lower bound zero (40_saturating.md rule R89). -/
theorem satNeg_unsigned {w : Nat} (a : BitVec w) : satNeg .unsigned a = 0 := by
  have hneg : -intOf .unsigned a ≤ laneMin .unsigned w := Int.neg_nonpos_of_nonneg (laneMin_le_intOf .unsigned a)
  rw [satNeg, saturate, clamp_of_le hneg (laneMin_le_laneMax _ w)]
  rfl

/-- `SMIN` is the one signed value whose negation is out of range, by one (40_saturating.md rule R88). -/
theorem neg_laneMin_signed (w : Nat) : -laneMin .signed w = laneMax .signed w + 1 := by
  simp only [laneMin, laneMax]
  omega

theorem satNeg_signed_eq_ite (w : Width) (a : BitVec w.bits) :
    satNeg .signed a =
      if a = truncTo w.bits (laneMin .signed w.bits) then truncTo w.bits (laneMax .signed w.bits) else -a := by
  have hrange := laneMin_le_laneMax .signed w.bits
  have hmin := neg_laneMin_signed w.bits
  split
  next ha =>
    have hint : intOf .signed a = laneMin .signed w.bits := by
      rw [ha, intOf_truncTo (width_bits_pos w) (Int.le_refl _) hrange]
    rw [satNeg, saturate, clamp_of_ge (by omega) hrange]
  next ha =>
    have hint : intOf .signed a ≠ laneMin .signed w.bits := by
      intro h
      rw [← h, truncTo_intOf] at ha
      exact ha rfl
    have hlo := laneMin_le_intOf .signed a
    have hhi := intOf_le_laneMax .signed a
    have hwrap : truncTo w.bits (-intOf .signed a) = -a := by
      rw [truncTo, BitVec.ofInt_neg, ← truncTo, truncTo_intOf]
    rw [satNeg, saturate_of_mem (by omega) (by omega), hwrap]

/-! ## Register values driven whole -/

theorem cut_toNat_lt (q : RegSize) (v : Vec) : (cut q v).toNat < 2 ^ q.bits := by
  rw [cut, BitVec.toNat_setWidth]
  exact Nat.lt_of_le_of_lt (Nat.mod_le _ _) (v.setWidth q.bits).isLt

/-- A register value cut to size `q` holds the lanes of that size and is zero above them. -/
theorem driveR_cut_drivesLanes (q : RegSize) (w : Width) (s : State) (v : Vec) :
    DrivesLanes (laneCount q w.bits) w.bits s (s.driveR (cut q v)) (lane w.bits v) :=
  ⟨_, rfl, rfl, rfl, by rw [laneCount_mul_bits]; exact cut_toNat_lt q v, fun _ hk => lane_cut v hk⟩

theorem driveR_zero_drivesLanes (n w : Nat) (s : State) : DrivesLanes n w s (s.driveR 0) fun _ => 0 :=
  ⟨_, rfl, rfl, rfl, Nat.two_pow_pos _, fun _ _ => BitVec.extractLsb'_zero⟩

/-! ## The commands -/

/-- Settles O20: the law of `sat_add` in every lane. -/
theorem satAddClampsTheExactSumInEveryLane : Obligations.SatAddClampsTheExactSumInEveryLane := by
  intro q t w
  refine ⟨decode_word_of_instr (f := .satAdd q t w) rfl, fun s => ?_⟩
  rw [exec_ofSatAdd]
  exact binaryOp_drivesLanes q w (satAdd t) s

/-- Settles O21: the law of `sat_sub` in every lane, `A` the minuend. -/
theorem satSubClampsTheExactDifferenceInEveryLane : Obligations.SatSubClampsTheExactDifferenceInEveryLane := by
  intro q t w
  refine ⟨decode_word_of_instr (f := .satSub q t w) rfl, fun s => ?_⟩
  rw [exec_ofSatSub]
  exact binaryOp_drivesLanes q w (satSub t) s

/-- Settles O22: the law of `sat_abs` in every lane, and the sign of its value there. -/
theorem satAbsSignedClampsTheMagnitude : Obligations.SatAbsSignedClampsTheMagnitude := by
  intro q w
  refine ⟨decode_word_of_instr (f := .satAbs q .signed w) rfl, fun s => ?_⟩
  rw [exec_ofSatAbs]
  have hdrives := unaryOp_drivesLanes q w (satAbs .signed) s
  refine ⟨hdrives.congr fun k _ => satAbs_eq_saturate_abs .signed _, fun t k ht hk => ?_⟩
  obtain ⟨t', ht', -, -, -, hlanes⟩ := hdrives
  obtain rfl : t' = t := Host.Outcome.next.inj (ht'.symm.trans ht)
  rw [hlanes k hk]
  exact intOf_satAbs_signed_nonneg w _

/-- Settles O23: every lane passes through, and the lanes of a register value are its cut to their size. -/
theorem satAbsUnsignedPassesLanesThrough : Obligations.SatAbsUnsignedPassesLanesThrough := by
  intro q w
  refine ⟨decode_word_of_instr (f := .satAbs q .unsigned w) rfl, fun s => ?_⟩
  rw [exec_ofSatAbs]
  have hdrives : DrivesLanes (laneCount q w.bits) w.bits s (unaryOp q w (satAbs .unsigned) s) (lane w.bits s.inputs.a) :=
    (unaryOp_drivesLanes q w (satAbs .unsigned) s).congr fun k _ => satAbs_unsigned _
  exact ⟨hdrives, hdrives.outcome_unique (width_bits_pos w) (driveR_cut_drivesLanes q w s s.inputs.a)⟩

/-- Settles O24: the law of `sat_neg` in every lane, and its value by whether the lane is `SMIN`. -/
theorem satNegSignedClampsTheNegation : Obligations.SatNegSignedClampsTheNegation := by
  intro q w
  refine ⟨decode_word_of_instr (f := .satNeg q .signed w) rfl, fun s => ?_⟩
  rw [exec_ofSatNeg]
  have hdrives := unaryOp_drivesLanes q w (satNeg .signed) s
  exact ⟨hdrives, hdrives.congr fun k _ => satNeg_signed_eq_ite w _⟩

/-- Settles O25: every lane is zero, and a register value of zero lanes is zero. -/
theorem satNegUnsignedIsZero : Obligations.SatNegUnsignedIsZero := by
  intro q w
  refine ⟨decode_word_of_instr (f := .satNeg q .unsigned w) rfl, fun s => ?_⟩
  rw [exec_ofSatNeg]
  have hdrives : DrivesLanes (laneCount q w.bits) w.bits s (unaryOp q w (satNeg .unsigned) s) fun _ => 0 :=
    (unaryOp_drivesLanes q w (satNeg .unsigned) s).congr fun k _ => satNeg_unsigned _
  exact hdrives.outcome_unique (width_bits_pos w) (driveR_zero_drivesLanes _ _ s)

end Sys2Proof.Machine
end

section
/-! Halving add, rounding halving add and halving subtract (41_halving.md rules R100 to R107). The floor of a
rational half is the model's integer division, and half of a sum of two lanes lies in the range of their type. The
mask-and-shift mechanism follows from reading the sum of two lanes off their common and their differing bits. -/

namespace Sys2Proof.Machine

/-! ## Half of an integer -/

theorem floor_intCast_div_two (i : Int) : ⌊(i : Rat) / 2⌋ = floorHalf i :=
  Rat.floor_intCast_div_natCast i 2

theorem le_floorHalf_iff {i lo : Int} : lo ≤ floorHalf i ↔ 2 * lo ≤ i := by
  unfold floorHalf
  omega

theorem floorHalf_le_iff {i hi : Int} : floorHalf i ≤ hi ↔ i ≤ 2 * hi + 1 := by
  unfold floorHalf
  omega

theorem floorHalf_mul_two_add (i j : Int) : floorHalf (i * 2 + j) = i + floorHalf j :=
  Int.mul_add_ediv_right i j two_ne_zero

/-! ## The laws on one lane -/

theorem two_mul_laneMin_le_intOf_add (t : Sign) {w : Nat} (a b : BitVec w) : 2 * laneMin t w ≤ intOf t a + intOf t b := by
  have ha := laneMin_le_intOf t a
  have hb := laneMin_le_intOf t b
  omega

theorem intOf_add_le_two_mul_laneMax (t : Sign) {w : Nat} (a b : BitVec w) : intOf t a + intOf t b ≤ 2 * laneMax t w := by
  have ha := intOf_le_laneMax t a
  have hb := intOf_le_laneMax t b
  omega

/-- An exact result of at most twice the range of a lane, or one above it, halves into the lane with nothing lost
(41_halving.md rule R100). -/
theorem intOf_truncTo_floorHalf {t : Sign} {w : Nat} {i : Int} (hw : 0 < w) (hlo : 2 * laneMin t w ≤ i)
    (hhi : i ≤ 2 * laneMax t w + 1) : intOf t (truncTo w (floorHalf i)) = floorHalf i :=
  intOf_truncTo hw (le_floorHalf_iff.mpr hlo) (floorHalf_le_iff.mpr hhi)

theorem intOf_hadd (t : Sign) (w : Width) (a b : BitVec w.bits) :
    intOf t (hadd t a b) = floorHalf (intOf t a + intOf t b) :=
  intOf_truncTo_floorHalf (width_bits_pos w) (two_mul_laneMin_le_intOf_add t a b)
    (Int.le_add_one (intOf_add_le_two_mul_laneMax t a b))

theorem intOf_rhadd (t : Sign) (w : Width) (a b : BitVec w.bits) :
    intOf t (rhadd t a b) = floorHalf (intOf t a + intOf t b + 1) :=
  intOf_truncTo_floorHalf (width_bits_pos w) (Int.le_add_one (two_mul_laneMin_le_intOf_add t a b))
    (Int.add_le_add_right (intOf_add_le_two_mul_laneMax t a b) 1)

/-- Settles O51: the halves are in range, so the lane holds them whole. -/
theorem halvingAddsNeverOverflow : Obligations.HalvingAddsNeverOverflow := by
  intro w t a b
  rw [floor_intCast_div_two, floor_intCast_div_two]
  exact ⟨intOf_hadd t w a b, intOf_rhadd t w a b⟩

/-! ## The sum of two lanes, bit by bit -/

/-- A half adder: the carry weighs two. -/
theorem toNat_add_toNat_eq_and_mul_two_add_xor (b c : Bool) : b.toNat + c.toNat = (b && c).toNat * 2 + (b ^^ c).toNat := by
  cases b <;> cases c <;> rfl

/-- Bits that both operands have count twice, bits that only one has count once. -/
theorem nat_add_eq_and_mul_two_add_xor (m n : Nat) : m + n = (m &&& n) * 2 + (m ^^^ n) := by
  induction m using Nat.binaryRec generalizing n with
  | zero => rw [Nat.zero_and, Nat.zero_xor, Nat.zero_mul]
  | bit b m ih =>
    cases n using Nat.binaryRec with
    | zero => rw [Nat.and_zero, Nat.xor_zero, Nat.zero_mul, Nat.add_comm]
    | bit c n =>
      have hhigh := ih n
      have hlow := toNat_add_toNat_eq_and_mul_two_add_xor b c
      rw [Nat.land_bit, Nat.xor_bit, Nat.bit_val, Nat.bit_val, Nat.bit_val, Nat.bit_val, Bool.bne_eq_xor]
      omega

/-- The sign bit of a signed lane weighs `2^w` less in its integer than in its word. -/
theorem toInt_eq_toNat_sub_msb {w : Nat} (v : BitVec w) : v.toInt = v.toNat - 2 ^ w * (v.msb.toNat : Int) := by
  rw [BitVec.toInt_eq_msb_cond]
  cases v.msb <;> simp

/-- The identity under the mechanism of 41_halving.md rule R101. The words of two lanes obey it, and so do their sign
bits. -/
theorem intOf_add_eq_and_mul_two_add_xor (t : Sign) {w : Nat} (a b : BitVec w) :
    intOf t a + intOf t b = intOf t (a &&& b) * 2 + intOf t (a ^^^ b) := by
  have hword : (a.toNat + b.toNat : Int) = (a &&& b).toNat * 2 + (a ^^^ b).toNat := by
    exact_mod_cast nat_add_eq_and_mul_two_add_xor a.toNat b.toNat
  cases t with
  | unsigned => exact hword
  | signed =>
    have hsign : (a.msb.toNat + b.msb.toNat : Int) = (a &&& b).msb.toNat * 2 + (a ^^^ b).msb.toNat := by
      rw [BitVec.msb_and, BitVec.msb_xor]
      exact_mod_cast toNat_add_toNat_eq_and_mul_two_add_xor a.msb b.msb
    simp only [intOf, toInt_eq_toNat_sub_msb]
    linear_combination hword - 2 ^ w * hsign

/-! ## The mask-and-shift mechanism -/

/-- A shift right by one place, arithmetic or logical by the type letter, is the floor of half the lane. -/
theorem intOf_halve (t : Sign) {w : Nat} (v : BitVec w) : intOf t (halve t v) = floorHalf (intOf t v) := by
  cases t with
  | signed => exact (BitVec.toInt_sshiftRight).trans (Int.shiftRight_eq_div_pow _ 1)
  | unsigned =>
    simp only [intOf, halve, floorHalf, BitVec.toNat_ushiftRight, Nat.shiftRight_eq_div_pow]
    omega

theorem halve_eq_truncTo (t : Sign) {w : Nat} (v : BitVec w) : halve t v = truncTo w (floorHalf (intOf t v)) := by
  rw [← intOf_halve, truncTo_intOf]

/-- Half the sum is the common bits and half of the differing ones, and the lane width suffices to add them. -/
theorem haddMechanism_eq_hadd (t : Sign) {w : Nat} (a b : BitVec w) : haddMechanism t a b = hadd t a b := by
  calc haddMechanism t a b
    _ = truncTo w (intOf t (a &&& b)) + truncTo w (floorHalf (intOf t (a ^^^ b))) := by
      rw [truncTo_intOf, ← halve_eq_truncTo, haddMechanism]
    _ = truncTo w (intOf t (a &&& b) + floorHalf (intOf t (a ^^^ b))) := (BitVec.ofInt_add _ _).symm
    _ = hadd t a b := by rw [hadd, intOf_add_eq_and_mul_two_add_xor, floorHalf_mul_two_add]

/-- Settles O42: the mechanism by the identity it rests on. -/
theorem maskAndShiftEqualsHadd : Obligations.MaskAndShiftEqualsHadd := by
  intro w t a b
  exact ⟨haddMechanism_eq_hadd t a b, intOf_add_eq_and_mul_two_add_xor t a b⟩

/-! ## The commands -/

theorem exec_ofHadd (q : RegSize) (t : Sign) (w : Width) (s : State) :
    exec (.ofHadd q t w) s = binaryOp q w (hadd t) s :=
  exec_of_instr (f := .hadd q t w) rfl s

theorem exec_ofRhadd (q : RegSize) (t : Sign) (w : Width) (s : State) :
    exec (.ofRhadd q t w) s = binaryOp q w (rhadd t) s :=
  exec_of_instr (f := .rhadd q t w) rfl s

theorem exec_ofHsub (q : RegSize) (t : Sign) (w : Width) (s : State) :
    exec (.ofHsub q t w) s = binaryOp q w (hsub t) s :=
  exec_of_instr (f := .hsub q t w) rfl s

/-- Settles O26: the law of `hadd` in every lane. -/
theorem haddFloorsTheExactMean : Obligations.HaddFloorsTheExactMean := by
  intro q t w
  refine ⟨decode_word_of_instr (f := .hadd q t w) rfl, fun s => ?_⟩
  simp only [exec_ofHadd, floor_intCast_div_two]
  exact binaryOp_drivesLanes q w (hadd t) s

/-- Settles O27: the law of `rhadd` in every lane. -/
theorem rhaddRoundsTiesTowardPlusInfinity : Obligations.RhaddRoundsTiesTowardPlusInfinity := by
  intro q t w
  refine ⟨decode_word_of_instr (f := .rhadd q t w) rfl, fun s => ?_⟩
  simp only [exec_ofRhadd, floor_intCast_div_two]
  exact binaryOp_drivesLanes q w (rhadd t) s

/-- Settles O28: the law of `hsub` in every lane, `A` the minuend. -/
theorem hsubFloorsHalfTheDifference : Obligations.HsubFloorsHalfTheDifference := by
  intro q t w
  refine ⟨decode_word_of_instr (f := .hsub q t w) rfl, fun s => ?_⟩
  simp only [exec_ofHsub, floor_intCast_div_two]
  exact binaryOp_drivesLanes q w (hsub t) s

end Sys2Proof.Machine
end

section
/-! Widening and narrowing (42_widen_narrow.md rules R117 to R123). A wider lane holds every integer of a narrower one of the
same type, so widening keeps the value. The halves of a widened lane are the lane and its extension, and lanes packed whole
are their halves packed in turn. -/

namespace Sys2Proof.Machine

/-! ## The commands by their width -/

theorem exec_ofWiden {t : Sign} {w : Width} {i : Instr} (h : Instr.ofWiden t w = some i) (s : State) :
    exec i s = wideningOp w (extend t (2 * w.bits)) s :=
  exec_of_instr (f := .widen t w) h s

theorem exec_ofNarrow {t : Sign} {w : Width} {i : Instr} (h : Instr.ofNarrow t w = some i) (s : State) :
    exec i s = narrowingOp w (narrow (w.bits / 2)) s :=
  exec_of_instr (f := .narrow t w) h s

theorem exec_ofNarrowSat {t : Sign} {w : Width} {i : Instr} (h : Instr.ofNarrowSat t w = some i) (s : State) :
    exec i s = narrowingOp w (narrowSat t (w.bits / 2)) s :=
  exec_of_instr (f := .narrowSat t w) h s

theorem exec_ofNarrowSatun {w : Width} {i : Instr} (h : Instr.ofNarrowSatun w = some i) (s : State) :
    exec i s = narrowingOp w (narrowSatun (w.bits / 2)) s :=
  exec_of_instr (f := .narrowSatun w) h s

/-! ## Narrowing -/

/-- Settles O30: the lane is cut alike for both type letters. -/
theorem narrowKeepsTheLowHalf : Obligations.NarrowKeepsTheLowHalf := by
  intro t w i hi
  refine ⟨decode_word_of_instr (f := .narrow t w) hi, fun s => ?_, fun t' j hj s => ?_⟩
  · rw [exec_ofNarrow hi]
    exact narrowingOp_drivesLanes w (narrow (w.bits / 2)) s
  · rw [exec_ofNarrow hi, exec_ofNarrow hj]

/-- Settles O31: the law of `narrow_sat` in every lane. -/
theorem narrowSatClampsToTheHalfWidth : Obligations.NarrowSatClampsToTheHalfWidth := by
  intro t w i hi
  refine ⟨decode_word_of_instr (f := .narrowSat t w) hi, fun s => ?_⟩
  rw [exec_ofNarrowSat hi]
  exact narrowingOp_drivesLanes w (narrowSat t (w.bits / 2)) s

/-- Settles O32: the law of `narrow_satun` in every lane, signed in and unsigned out. -/
theorem narrowSatunClampsSignedToUnsigned : Obligations.NarrowSatunClampsSignedToUnsigned := by
  intro w i hi
  refine ⟨decode_word_of_instr (f := .narrowSatun w) hi, fun s => ?_⟩
  rw [exec_ofNarrowSatun hi]
  exact narrowingOp_drivesLanes w (narrowSatun (w.bits / 2)) s

/-! ## Extending one lane -/

theorem laneMin_antitone (t : Sign) : Antitone (laneMin t) := by
  intro w n h
  cases t with
  | signed => exact Int.neg_le_neg (pow_le_pow_right₀ (by decide) (Nat.sub_le_sub_right h 1))
  | unsigned => exact Int.le_refl 0

theorem laneMax_monotone (t : Sign) : Monotone (laneMax t) := by
  intro w n h
  cases t with
  | signed => exact Int.sub_le_sub_right (pow_le_pow_right₀ (by decide) (Nat.sub_le_sub_right h 1)) 1
  | unsigned => exact Int.sub_le_sub_right (pow_le_pow_right₀ (by decide) h) 1

/-- The wider lane type has the narrower one's range within its own. -/
theorem intOf_extend (t : Sign) {w n : Nat} (hn : 0 < n) (h : w ≤ n) (a : BitVec w) :
    intOf t (extend t n a) = intOf t a :=
  intOf_truncTo hn (Int.le_trans (laneMin_antitone t h) (laneMin_le_intOf t a))
    (Int.le_trans (intOf_le_laneMax t a) (laneMax_monotone t h))

theorem extend_signed (n : Nat) {w : Nat} (a : BitVec w) : extend .signed n a = a.signExtend n := rfl

theorem extend_unsigned (n : Nat) {w : Nat} (a : BitVec w) : extend .unsigned n a = a.zeroExtend n :=
  (BitVec.ofInt_natCast n a.toNat).trans (BitVec.ofNat_toNat n a)

/-- Settles O29: the extension of every lane, which is in range and keeps its value. -/
theorem widenExtendsEveryLane : Obligations.WidenExtendsEveryLane := by
  intro t w i hi
  refine ⟨decode_word_of_instr (f := .widen t w) hi, fun s => ?_⟩
  rw [exec_ofWiden hi]
  have hdrives := wideningOp_drivesLanes w (extend t (2 * w.bits)) s
  refine ⟨hdrives.congr fun k _ => ?_, fun s' k hs' hk => ?_⟩
  · cases t with
    | signed => exact extend_signed _ _
    | unsigned => exact extend_unsigned _ _
  · obtain ⟨t', ht', -, -, -, hlanes⟩ := hdrives
    obtain rfl : t' = s' := Host.Outcome.next.inj (ht'.symm.trans hs')
    have hw := width_bits_pos w
    rw [hlanes k hk]
    exact intOf_extend t (by omega) (by omega) _

/-! ## Interleaving (42_widen_narrow.md rule R123) -/

theorem extend_lowHalf (t : Sign) {w : Nat} (a : BitVec w) : (extend t (2 * w) a).extractLsb' 0 w = a := by
  apply BitVec.eq_of_getLsbD_eq
  intro j hj
  have hwide : j < 2 * w := by omega
  cases t with
  | signed => simp [extend_signed, BitVec.getElem_signExtend, hj, hwide]
  | unsigned => simp [extend_unsigned, hj, hwide]

theorem getLsbD_fill (n : Nat) (b : Bool) (j : Nat) : (fill n b).getLsbD j = (decide (j < n) && b) := by
  cases b <;> simp [fill]

theorem extend_highHalf (t : Sign) {w : Nat} (a : BitVec w) :
    (extend t (2 * w) a).extractLsb' w w = extensionLane t a := by
  apply BitVec.eq_of_getLsbD_eq
  intro j hj
  have hwide : w + j < 2 * w := by omega
  cases t with
  | signed =>
    rw [BitVec.getLsbD_extractLsb', extend_signed, BitVec.getLsbD_signExtend, extensionLane, getLsbD_fill]
    simp [hj, hwide]
  | unsigned => simp [extend_unsigned, extensionLane]

/-- Lanes of width `2w` packed whole are their halves packed in turn: bit `j` lies in half `j / w` of width `w`, which is the
low or the high half of lane `j / (2w)` as `j / w` is even or odd. -/
theorem pack_eq_pack_halves {w n : Nat} {f : Nat → BitVec (2 * w)} {g : Nat → BitVec w} (hw : 0 < w)
    (hlow : ∀ k, (f k).extractLsb' 0 w = g (2 * k)) (hhigh : ∀ k, (f k).extractLsb' w w = g (2 * k + 1)) :
    pack (2 * w) n f = pack w (2 * n) g := by
  apply BitVec.eq_of_getLsbD_eq
  intro j _
  have hfit : n * (2 * w) = 2 * n * w := by ring
  have hlane : j / (2 * w) = j / w / 2 := by rw [Nat.mul_comm, Nat.div_div_eq_div_mul]
  have hplace : j % (2 * w) = j % w + w * (j / w % 2) := by rw [Nat.mul_comm, Nat.mod_mul]
  have hbit : (f (j / w / 2)).getLsbD (j % (2 * w)) = (g (j / w)).getLsbD (j % w) := by
    have hr := Nat.mod_lt j hw
    rcases Nat.mod_two_eq_zero_or_one (j / w) with hhalf | hhalf
    · have heven : 2 * (j / w / 2) = j / w := by omega
      calc (f (j / w / 2)).getLsbD (j % (2 * w))
        _ = ((f (j / w / 2)).extractLsb' 0 w).getLsbD (j % w) := by simp [hplace, hhalf, hr]
        _ = (g (j / w)).getLsbD (j % w) := by rw [hlow, heven]
    · have hodd : 2 * (j / w / 2) + 1 = j / w := by omega
      calc (f (j / w / 2)).getLsbD (j % (2 * w))
        _ = ((f (j / w / 2)).extractLsb' w w).getLsbD (j % w) := by simp [hplace, hhalf, hr, Nat.add_comm]
        _ = (g (j / w)).getLsbD (j % w) := by rw [hhigh, hodd]
  rw [pack_getLsbD, pack_getLsbD, hfit, hlane, hbit]

theorem mapLanes_extend_eq_wideningMechanism (t : Sign) (w : Width) (a : Vec) :
    mapLanes (laneCount .short w.bits) w.bits (2 * w.bits) (extend t (2 * w.bits)) a = wideningMechanism t w.bits a := by
  refine pack_eq_pack_halves (width_bits_pos w) (fun k => ?_) (fun k => ?_)
  · have hlane : 2 * k / 2 = k := by omega
    rw [extend_lowHalf, if_pos (Nat.mul_mod_right 2 k), hlane]
  · have hodd : (2 * k + 1) % 2 ≠ 0 := by omega
    have hlane : (2 * k + 1) / 2 = k := by omega
    rw [extend_highHalf, if_neg hodd, hlane]

/-- Settles O45: the halves of a widened lane are the lanes interleaved. -/
theorem interleavingEqualsWidening : Obligations.InterleavingEqualsWidening := by
  intro t w i hi s
  rw [exec_ofWiden hi, wideningOp, mapLanes_extend_eq_wideningMechanism]
  rfl

end Sys2Proof.Machine
end

section
/-! Lane extract and lane insert at a run-time index (43_lane_access.md rules R132 to R135). Both commands are their
operation, which the lane bound splits in two: below it a port is driven, otherwise the transaction is refused. -/

namespace Sys2Proof.Machine

/-! ## The commands -/

theorem exec_ofExtractLane (q : RegSize) (t : Sign) (w : Width) (s : State) :
    exec (.ofExtractLane q t w) s = extractLane q t w s :=
  exec_of_instr (f := .extractLane q t w) rfl s

theorem exec_ofInsertLane (q : RegSize) (t : Sign) (w : Width) (s : State) :
    exec (.ofInsertLane q t w) s = insertLane q w s :=
  exec_of_instr (f := .insertLane q t w) rfl s

/-! ## An index out of range (43_lane_access.md rule R132) -/

theorem exec_ofExtractLane_of_le {q : RegSize} {w : Width} {s : State} (t : Sign)
    (h : laneCount q w.bits ≤ s.inputs.idx.toNat) :
    exec (.ofExtractLane q t w) s = .refused (.laneIndexOutOfRange s.inputs.idx (laneCount q w.bits)) := by
  rw [exec_ofExtractLane, extractLane_of_le h]

theorem exec_ofInsertLane_of_le {q : RegSize} {w : Width} {s : State} (t : Sign)
    (h : laneCount q w.bits ≤ s.inputs.idx.toNat) :
    exec (.ofInsertLane q t w) s = .refused (.laneIndexOutOfRange s.inputs.idx (laneCount q w.bits)) := by
  rw [exec_ofInsertLane, insertLane_of_le h]

/-- Settles O35: the eight counts of the table, and the refusal of both commands. -/
theorem laneCountsBoundTheIndex : Obligations.LaneCountsBoundTheIndex := by
  refine ⟨by decide, fun q t w s h => ⟨?extract, ?insert⟩⟩
  case extract => exact exec_ofExtractLane_of_le t h
  case insert => exact exec_ofInsertLane_of_le t h

/-! ## Extract -/

theorem driveX_drivesScalar (s : State) (v : Scalar) : DrivesScalar s (s.driveX v) v :=
  ⟨_, rfl, rfl, rfl, rfl⟩

/-- What `extractLane` answers below the lane bound. -/
theorem extractLane_drivesScalar {q : RegSize} {w : Width} {s : State} (t : Sign)
    (h : s.inputs.idx.toNat < laneCount q w.bits) :
    DrivesScalar s (extractLane q t w s) (extend t 64 (lane w.bits s.inputs.a s.inputs.idx.toNat)) := by
  rw [extractLane_of_lt h]
  exact driveX_drivesScalar s _

/-- Settles O33: the extension by the type letter is the sign or the zero extension. -/
theorem extractLaneReadsTheIndexedLane : Obligations.ExtractLaneReadsTheIndexedLane := by
  intro q t w
  refine ⟨decode_word_of_instr (f := .extractLane q t w) rfl, fun s h => ?_, fun s h => exec_ofExtractLane_of_le t h⟩
  have hdrives := extractLane_drivesScalar t h
  rw [exec_ofExtractLane]
  cases t with
  | signed => rwa [extend_signed] at hdrives
  | unsigned => rwa [extend_unsigned] at hdrives

/-! ## Insert -/

/-- The low lane of the scalar operand is the operand cut to the lane width, which no lane exceeds. -/
theorem scalar_low_eq_setWidth (w : Width) (v : Scalar) : v.extractLsb' 0 w.bits = v.setWidth w.bits := by
  have hw : w.bits ≤ 64 := by cases w <;> decide
  exact (BitVec.setWidth_eq_extractLsb' hw).symm

/-- What `insertLane` answers below the lane bound. -/
theorem insertLane_drivesLanes {q : RegSize} {w : Width} {s : State} (h : s.inputs.idx.toNat < laneCount q w.bits) :
    DrivesLanes (laneCount q w.bits) w.bits s (insertLane q w s) fun k =>
      if k = s.inputs.idx.toNat then s.inputs.s.setWidth w.bits else lane w.bits s.inputs.a k := by
  rw [insertLane_of_lt h, scalar_low_eq_setWidth]
  exact driveR_pack_drivesLanes s _ (laneCount_mul_le q w.bits)

/-- Settles O34: the operation does not take the type letter. -/
theorem insertLaneReplacesTheIndexedLane : Obligations.InsertLaneReplacesTheIndexedLane := by
  intro q t w
  refine ⟨decode_word_of_instr (f := .insertLane q t w) rfl, fun s h => ?drives,
    fun s h => exec_ofInsertLane_of_le t h, fun t' s => ?letter⟩
  case drives =>
    rw [exec_ofInsertLane]
    exact insertLane_drivesLanes h
  case letter => rw [exec_ofInsertLane, exec_ofInsertLane]

end Sys2Proof.Machine
end

section
/-! Byte table lookup over one to four registers (44_table_lookup.md rules R140 to R143). Both operations pack one looked up
byte at each position, and differ only in the fallback byte. The type letter has no effect on either. -/

namespace Sys2Proof.Machine

/-! ## The lookup -/

/-- `T[i]` written out: byte `i mod Bq` of register `i div Bq` (44_table_lookup.md rule R141). -/
theorem lookup_eq_ite (n : TableCount) (q : RegSize) (p : Inputs) (i : Nat) (fallback : BitVec 8) :
    lookup n q p i fallback =
      if i < n.count * (q.bits / 8) then lane 8 (p.table (i / (q.bits / 8))) (i % (q.bits / 8)) else fallback := rfl

/-- Bytes are the lanes of width 8, so they fit a register. -/
theorem byteCount_mul_le (q : RegSize) : byteCount q * 8 ≤ 128 :=
  laneCount_mul_le q 8

/-- What `tbl` answers. -/
theorem tbl_drivesLanes (n : TableCount) (q : RegSize) (s : State) :
    DrivesLanes (byteCount q) 8 s (tbl n q s) fun k => lookup n q s.inputs (lane 8 s.inputs.a k).toNat 0 :=
  driveR_pack_drivesLanes s _ (byteCount_mul_le q)

/-- What `tbx` answers. -/
theorem tbx_drivesLanes (n : TableCount) (q : RegSize) (s : State) :
    DrivesLanes (byteCount q) 8 s (tbx n q s)
      fun k => lookup n q s.inputs (lane 8 s.inputs.a k).toNat (lane 8 s.inputs.b k) :=
  driveR_pack_drivesLanes s _ (byteCount_mul_le q)

/-! ## The commands -/

theorem exec_ofTbl (n : TableCount) (q : RegSize) (t : Sign) (s : State) : exec (.ofTbl n q t) s = tbl n q s :=
  exec_of_instr (f := .tbl n q t) rfl s

theorem exec_ofTbx (n : TableCount) (q : RegSize) (t : Sign) (s : State) : exec (.ofTbx n q t) s = tbx n q s :=
  exec_of_instr (f := .tbx n q t) rfl s

/-- Settles O36: the lookup with fallback zero at every position, alike for both type letters. -/
theorem tblGivesZeroOutOfRange : Obligations.TblGivesZeroOutOfRange := by
  intro n q t
  refine ⟨decode_word_of_instr (f := .tbl n q t) rfl, fun s => ?lanes, fun t' s => ?letter⟩
  case lanes =>
    rw [exec_ofTbl]
    exact (tbl_drivesLanes n q s).congr fun k _ => lookup_eq_ite n q s.inputs _ 0
  case letter => rw [exec_ofTbl, exec_ofTbl]

/-- Settles O37: the lookup with the byte of `B` at the same position as fallback, alike for both type letters. -/
theorem tbxGivesTheFallbackOutOfRange : Obligations.TbxGivesTheFallbackOutOfRange := by
  intro n q t
  refine ⟨decode_word_of_instr (f := .tbx n q t) rfl, fun s => ?lanes, fun t' s => ?letter⟩
  case lanes =>
    rw [exec_ofTbx]
    exact (tbx_drivesLanes n q s).congr fun k _ => lookup_eq_ite n q s.inputs _ (lane 8 s.inputs.b k)
  case letter => rw [exec_ofTbx, exec_ofTbx]

end Sys2Proof.Machine
end

section
/-! Saturating doubling (45_doubling_saturate.md rules R150 and R152), and the two commands of one operand that are a command
of two: doubling adds a lane to itself, negating subtracts it from zero. A law that holds on one lane carries over to the
commands, since both pack the same lanes. -/

namespace Sys2Proof.Machine

/-! ## The command -/

theorem exec_ofQd (q : RegSize) (w : Width) (s : State) : exec (.ofQd q w) s = unaryOp q w qd s :=
  exec_of_instr (f := .qd q w) rfl s

/-- Settles O38: the law of `qd` in every lane. -/
theorem qdClampsTheExactDouble : Obligations.QdClampsTheExactDouble := by
  intro q w
  refine ⟨decode_word_of_instr (f := .qd q w) rfl, fun s => ?_⟩
  rw [exec_ofQd]
  exact unaryOp_drivesLanes q w qd s

/-! ## The laws on one lane -/

theorem satAdd_self {w : Nat} (a : BitVec w) : satAdd .signed a a = qd a := by
  rw [satAdd, qd, two_mul]

theorem intOf_zero (t : Sign) (w : Nat) : intOf t (0 : BitVec w) = 0 := by
  cases t with
  | signed => exact BitVec.toInt_zero
  | unsigned => rfl

theorem satSub_zero_left (t : Sign) {w : Nat} (a : BitVec w) : satSub t 0 a = satNeg t a := by
  rw [satSub, satNeg, intOf_zero, Int.zero_sub]

/-! ## Operations of two operands as operations of one -/

theorem lane_zero (w k : Nat) : lane w 0 k = 0 :=
  BitVec.extractLsb'_zero

/-- Both operand ports may carry one value (10_state.md section 2): each lane then meets itself. -/
theorem zipLanes_self {n w : Nat} {f : BitVec w → BitVec w → BitVec w} {g : BitVec w → BitVec w}
    (h : ∀ x, f x x = g x) (a : Vec) : zipLanes n w f a a = mapLanes n w w g a :=
  pack_congr fun _ _ => h _

theorem zipLanes_zero_left {n w : Nat} {f : BitVec w → BitVec w → BitVec w} {g : BitVec w → BitVec w}
    (h : ∀ x, f 0 x = g x) (b : Vec) : zipLanes n w f 0 b = mapLanes n w w g b :=
  pack_congr fun k _ => by rw [lane_zero, h]

theorem exec_ofSatAdd_of_b_eq_a (q : RegSize) (w : Width) {s : State} (h : s.inputs.b = s.inputs.a) :
    exec (.ofSatAdd q .signed w) s = exec (.ofQd q w) s := by
  rw [exec_ofSatAdd, exec_ofQd, binaryOp, unaryOp, h, zipLanes_self satAdd_self]

/-- The input ports differ here, so only what the two commands drive can agree. -/
theorem resultOf_exec_ofSatNeg (q : RegSize) (t : Sign) (w : Width) (s : State) :
    resultOf (exec (.ofSatNeg q t w) s) =
      resultOf (exec (.ofSatSub q t w) (s.present { s.inputs with a := 0, b := s.inputs.a })) := by
  rw [exec_ofSatNeg, exec_ofSatSub, unaryOp, binaryOp, resultOf_driveR, resultOf_driveR, present_inputs,
    zipLanes_zero_left (satSub_zero_left t)]

/-- Settles O39: in each pair both commands drive the same lanes. -/
theorem doublingIsAddingALaneToItself : Obligations.DoublingIsAddingALaneToItself := by
  intro q w s
  exact ⟨exec_ofSatAdd_of_b_eq_a q w, resultOf_exec_ofSatNeg q .signed w s⟩

end Sys2Proof.Machine
end

section
/-! What stops a transaction (60_exceptions.md rules R160 to R168). A command is refused exactly when its form bounds the lane
index and the index is not below the bound; a step is refused as its command is, or for a reserved word. -/

namespace Sys2Proof.Machine

/-! ## The lane bound -/

/-- The forms with a lane bound are the two lane accesses, and the bound is the lane count of their layout. -/
theorem formLaneBound_eq_some_iff {f : Form} {n : Nat} : formLaneBound f = some n ↔
    ∃ (q : RegSize) (u : Sign) (w : Width), (f = .extractLane q u w ∨ f = .insertLane q u w) ∧ laneCount q w.bits = n := by
  constructor
  · intro h
    cases f with
    | extractLane q u w => exact ⟨q, u, w, .inl rfl, Option.some.inj h⟩
    | insertLane q u w => exact ⟨q, u, w, .inr rfl, Option.some.inj h⟩
    | _ => nomatch h
  · rintro ⟨q, u, w, rfl | rfl, rfl⟩
    · rfl
    · rfl

theorem form_eq_insertLane_iff {i : Instr} {q : RegSize} {u : Sign} {w : Width} :
    i.form = .insertLane q u w ↔ i = .ofInsertLane q u w :=
  Form.instr_eq_some_iff.symm.trans (Option.some_inj.trans eq_comm)

/-- The same of commands: those with a lane bound are the lane access commands. -/
theorem formLaneBound_form_eq_some_iff {i : Instr} {n : Nat} : formLaneBound i.form = some n ↔
    ∃ (q : RegSize) (u : Sign) (w : Width),
      (i = .ofExtractLane q u w ∨ i = .ofInsertLane q u w) ∧ laneCount q w.bits = n := by
  simp only [formLaneBound_eq_some_iff, form_eq_extractLane_iff, form_eq_insertLane_iff]

theorem laneCount_pos (q : RegSize) (w : Width) : 0 < laneCount q w.bits := by
  cases q <;> cases w <;> decide

/-- No bound excludes the index 0. -/
theorem formLaneBound_pos {f : Form} {n : Nat} (h : formLaneBound f = some n) : 0 < n := by
  obtain ⟨q, u, w, -, rfl⟩ := formLaneBound_eq_some_iff.mp h
  exact laneCount_pos q w

/-! ## Refused commands -/

/-- A command has a next state, or its form bounds the lane index, the index is not below the bound, and the refusal says
so. -/
theorem exec_next_or_refused (i : Instr) (s : State) :
    (∃ t : State, exec i s = .next t) ∨
      ∃ n, formLaneBound i.form = some n ∧ n ≤ s.inputs.idx.toNat ∧
        exec i s = .refused (.laneIndexOutOfRange s.inputs.idx n) := by
  by_cases hbound : ∀ n, formLaneBound i.form = some n → s.inputs.idx.toNat < n
  · exact .inl ((exec_completes_iff i s).mpr hbound)
  · push Not at hbound
    obtain ⟨n, hn, hle⟩ := hbound
    exact .inr ⟨n, hn, hle, (exec_eq_formExec i s).trans (formExec_of_le hn hle)⟩

theorem exec_eq_refused_iff {i : Instr} {s : State} {r : Refusal} :
    exec i s = .refused r ↔
      ∃ n, formLaneBound i.form = some n ∧ n ≤ s.inputs.idx.toNat ∧ r = .laneIndexOutOfRange s.inputs.idx n := by
  constructor
  · intro hr
    obtain ⟨t, ht⟩ | ⟨n, hn, hle, hexec⟩ := exec_next_or_refused i s
    · nomatch hr.symm.trans ht
    · exact ⟨n, hn, hle, Host.Outcome.refused.inj (hr.symm.trans hexec)⟩
  · rintro ⟨n, hn, hle, rfl⟩
    rw [exec_eq_formExec, formExec_of_le hn hle]

/-- The lane index 0 lets every command complete, whatever the other ports carry. -/
theorem exec_completes_of_idx_eq_zero (i : Instr) {s : State} (hidx : s.inputs.idx = 0) :
    ∃ t : State, exec i s = .next t := by
  rw [exec_completes_iff, hidx]
  intro n hn
  exact formLaneBound_pos hn

theorem step_present_encode_completes (i : Instr) (s : State) :
    ∃ t : State, step (s.present { s.inputs with cmd := encode i, idx := 0 }) = .next t := by
  obtain ⟨t, ht⟩ := exec_completes_of_idx_eq_zero i (s := s.present { s.inputs with cmd := encode i, idx := 0 }) rfl
  exact ⟨t, step_eq_next_iff.mpr ⟨i, decode_encode i, ht⟩⟩

/-- Settles O10: the commands with a lane bound are the lane accesses, and every bound admits the index 0. -/
theorem onlyALaneIndexOutOfRangeStopsACommand : Obligations.OnlyALaneIndexOutOfRangeStopsACommand := by
  refine ⟨fun i s => (exec_next_or_refused i s).imp_right ?stops, step_present_encode_completes⟩
  case stops =>
    rintro ⟨n, hn, hle, hexec⟩
    obtain ⟨q, u, w, hi, rfl⟩ := formLaneBound_form_eq_some_iff.mp hn
    exact ⟨q, u, w, hi, hle, hexec⟩

/-! ## Refused steps -/

/-- A step is refused for a word that does not decode, or as the command it decodes to is. -/
theorem step_eq_refused_iff {s : State} {r : Refusal} :
    step s = .refused r ↔
      (decode s.inputs.cmd = .invalid ∧ r = .reservedCommand s.inputs.cmd) ∨
      ∃ i : Instr, decode s.inputs.cmd = .command i ∧ exec i s = .refused r := by
  cases hd : decode s.inputs.cmd with
  | invalid => simp [step_of_invalid hd, eq_comm]
  | command i => simp [stepRunsTheDecodedCommand s i hd]

/-- Settles O11: the decoder rejects exactly the words whose fields are not legal, and a command is refused exactly for its
lane index. -/
theorem refusalsAreReservedWordsAndIndicesOutOfRange : Obligations.RefusalsAreReservedWordsAndIndicesOutOfRange := by
  intro s r
  simp only [step_eq_refused_iff, exec_eq_refused_iff, decode_eq_invalid_iff, exists_and_left]

end Sys2Proof.Machine
end

section
/-! Lanes do not interact (70_reset_and_hazards.md section 3). Each shared operation drives in a lane a function of the operand
lanes at the same position, so results from two states agree where those do. -/

namespace Sys2Proof.Machine

/-! ## One driven lane -/

theorem DrivesLanes.lane_of_next {n w k : Nat} {s t : State} {o : Host.Outcome State Fault Refusal} {f : Nat → BitVec w}
    (h : DrivesLanes n w s o f) (ht : o = .next t) (hk : k < n) : lane w t.outputs.r k = f k := by
  obtain ⟨t', ht', -, -, -, hlanes⟩ := h
  obtain rfl : t' = t := Host.Outcome.next.inj (ht'.symm.trans ht)
  exact hlanes k hk

/-- Next states reached from two states agree on a lane that both drive alike. -/
theorem DrivesLanes.lane_congr {n w k : Nat} {s s' t t' : State} {o o' : Host.Outcome State Fault Refusal}
    {f f' : Nat → BitVec w} (h : DrivesLanes n w s o f) (h' : DrivesLanes n w s' o' f') (hk : k < n) (hf : f k = f' k)
    (ht : o = .next t) (ht' : o' = .next t') : lane w t.outputs.r k = lane w t'.outputs.r k := by
  rw [h.lane_of_next ht hk, h'.lane_of_next ht' hk, hf]

/-! ## The shared operations -/

theorem unaryOp_lane_congr {q : RegSize} {w : Width} {f : BitVec w.bits → BitVec w.bits} {s s' t t' : State} {k : Nat}
    (hk : k < laneCount q w.bits) (ha : lane w.bits s.inputs.a k = lane w.bits s'.inputs.a k)
    (ht : unaryOp q w f s = .next t) (ht' : unaryOp q w f s' = .next t') :
    lane w.bits t.outputs.r k = lane w.bits t'.outputs.r k :=
  (unaryOp_drivesLanes q w f s).lane_congr (unaryOp_drivesLanes q w f s') hk (congrArg f ha) ht ht'

theorem binaryOp_lane_congr {q : RegSize} {w : Width} {f : BitVec w.bits → BitVec w.bits → BitVec w.bits}
    {s s' t t' : State} {k : Nat} (hk : k < laneCount q w.bits)
    (ha : lane w.bits s.inputs.a k = lane w.bits s'.inputs.a k) (hb : lane w.bits s.inputs.b k = lane w.bits s'.inputs.b k)
    (ht : binaryOp q w f s = .next t) (ht' : binaryOp q w f s' = .next t') :
    lane w.bits t.outputs.r k = lane w.bits t'.outputs.r k :=
  (binaryOp_drivesLanes q w f s).lane_congr (binaryOp_drivesLanes q w f s') hk (congrArg₂ f ha hb) ht ht'

theorem narrowingOp_lane_congr {w : Width} {f : BitVec w.bits → BitVec (w.bits / 2)} {s s' t t' : State} {k : Nat}
    (hk : k < laneCount .full w.bits) (ha : lane w.bits s.inputs.a k = lane w.bits s'.inputs.a k)
    (ht : narrowingOp w f s = .next t) (ht' : narrowingOp w f s' = .next t') :
    lane (w.bits / 2) t.outputs.r k = lane (w.bits / 2) t'.outputs.r k :=
  (narrowingOp_drivesLanes w f s).lane_congr (narrowingOp_drivesLanes w f s') hk (congrArg f ha) ht ht'

theorem wideningOp_lane_congr {w : Width} {f : BitVec w.bits → BitVec (2 * w.bits)} {s s' t t' : State} {k : Nat}
    (hk : k < laneCount .short w.bits) (ha : lane w.bits s.inputs.a k = lane w.bits s'.inputs.a k)
    (ht : wideningOp w f s = .next t) (ht' : wideningOp w f s' = .next t') :
    lane (2 * w.bits) t.outputs.r k = lane (2 * w.bits) t'.outputs.r k :=
  (wideningOp_drivesLanes w f s).lane_congr (wideningOp_drivesLanes w f s') hk (congrArg f ha) ht ht'

/-- A lane is inserted at one position, the same from both states. -/
theorem insertLane_lane_congr {q : RegSize} {w : Width} {s s' t t' : State} {k : Nat} (hk : k < laneCount q w.bits)
    (hs : s.inputs.s = s'.inputs.s) (hidx : s.inputs.idx = s'.inputs.idx)
    (ha : lane w.bits s.inputs.a k = lane w.bits s'.inputs.a k)
    (ht : insertLane q w s = .next t) (ht' : insertLane q w s' = .next t') :
    lane w.bits t.outputs.r k = lane w.bits t'.outputs.r k := by
  obtain ⟨hlt, -⟩ := insertLane_eq_next_iff.mp ht
  obtain ⟨hlt', -⟩ := insertLane_eq_next_iff.mp ht'
  refine (insertLane_drivesLanes hlt).lane_congr (insertLane_drivesLanes hlt') hk ?_ ht ht'
  rw [hs, hidx, ha]

theorem tablesAgree_of_table_eq {n : TableCount} {q : RegSize} {p p' : Inputs} (h : ∀ j, p.table j = p'.table j) :
    TablesAgree n q p p' :=
  fun j _ => congrArg (cut q) (h j)

theorem tbl_lane_congr {n : TableCount} {q : RegSize} {s s' t t' : State} {k : Nat} (hk : k < byteCount q)
    (hT : ∀ j, s.inputs.table j = s'.inputs.table j) (ha : lane 8 s.inputs.a k = lane 8 s'.inputs.a k)
    (ht : tbl n q s = .next t) (ht' : tbl n q s' = .next t') : lane 8 t.outputs.r k = lane 8 t'.outputs.r k := by
  refine (tbl_drivesLanes n q s).lane_congr (tbl_drivesLanes n q s') hk ?_ ht ht'
  rw [ha, lookup_congr_tables (tablesAgree_of_table_eq hT)]

theorem tbx_lane_congr {n : TableCount} {q : RegSize} {s s' t t' : State} {k : Nat} (hk : k < byteCount q)
    (hT : ∀ j, s.inputs.table j = s'.inputs.table j) (ha : lane 8 s.inputs.a k = lane 8 s'.inputs.a k)
    (hb : lane 8 s.inputs.b k = lane 8 s'.inputs.b k)
    (ht : tbx n q s = .next t) (ht' : tbx n q s' = .next t') : lane 8 t.outputs.r k = lane 8 t'.outputs.r k := by
  refine (tbx_drivesLanes n q s).lane_congr (tbx_drivesLanes n q s') hk ?_ ht ht'
  rw [ha, hb, lookup_congr_tables (tablesAgree_of_table_eq hT)]

/-! ## The commands -/

theorem t0_mem_ports (n : TableCount) : Port.t0 ∈ n.ports := by
  cases n <;> decide

/-- The operations by operand form; a command that reads the table, `S` or `IDX` names those ports among its operands. -/
theorem formExec_lane_congr {f : Form} {l : Layout} {k : Nat} {s s' t t' : State} (hl : formLayout f = some l)
    (hk : k < l.lanes) (hT : Port.t0 ∈ f.operands → ∀ j, s.inputs.table j = s'.inputs.table j)
    (hs : Port.s ∈ f.operands → s.inputs.s = s'.inputs.s) (hidx : Port.idx ∈ f.operands → s.inputs.idx = s'.inputs.idx)
    (ha : lane l.operandWidth s.inputs.a k = lane l.operandWidth s'.inputs.a k)
    (hb : lane l.operandWidth s.inputs.b k = lane l.operandWidth s'.inputs.b k)
    (ht : formExec f s = .next t) (ht' : formExec f s' = .next t') :
    lane l.resultWidth t.outputs.r k = lane l.resultWidth t'.outputs.r k := by
  cases f with
  | extractLane => nomatch hl
  | satAdd | satSub | hadd | rhadd | hsub =>
    cases hl
    exact binaryOp_lane_congr hk ha hb ht ht'
  | satAbs | satNeg | qd =>
    cases hl
    exact unaryOp_lane_congr hk ha ht ht'
  | narrow | narrowSat | narrowSatun =>
    cases hl
    exact narrowingOp_lane_congr hk ha ht ht'
  | widen =>
    cases hl
    exact wideningOp_lane_congr hk ha ht ht'
  | insertLane =>
    cases hl
    have hreadS : Port.s ∈ [Port.a, Port.s, Port.idx] := by decide
    have hreadIdx : Port.idx ∈ [Port.a, Port.s, Port.idx] := by decide
    exact insertLane_lane_congr hk (hs hreadS) (hidx hreadIdx) ha ht ht'
  | tbl n =>
    cases hl
    exact tbl_lane_congr hk (hT (List.mem_append_left _ (t0_mem_ports n))) ha ht ht'
  | tbx n =>
    cases hl
    exact tbx_lane_congr hk (hT (List.mem_append_left _ (t0_mem_ports n))) ha hb ht ht'

/-- Settles O18: a command does what its form says. -/
theorem lanesDoNotInteract : Obligations.LanesDoNotInteract := by
  intro i l k s s' t t' hl hk hT hs hidx ha hb ht ht'
  rw [exec_eq_formExec] at ht ht'
  exact formExec_lane_congr hl hk hT hs hidx ha hb ht ht'

end Sys2Proof.Machine
end

section
/-! Saturation by bit-level tests (40_saturating.md rules R81, R83 and R85, and section 5; 45_doubling_saturate.md rule R151).
An exact result beyond a bound wraps by `2^w` back into the range of the lane, so the wrapped lane tells what was lost. -/

namespace Sys2Proof.Machine

/-! ## Exact results cut to a lane -/

theorem truncTo_add (w : Nat) (i j : Int) : truncTo w (i + j) = truncTo w i + truncTo w j :=
  BitVec.ofInt_add i j

theorem truncTo_sub (w : Nat) (i j : Int) : truncTo w (i - j) = truncTo w i - truncTo w j := by
  rw [Int.sub_eq_add_neg, truncTo_add, BitVec.sub_eq_add_neg]
  exact congrArg _ BitVec.ofInt_neg

/-- The wrapped sum is the exact one cut to the lane width, for either type letter. -/
theorem truncTo_intOf_add (t : Sign) {w : Nat} (a b : BitVec w) : truncTo w (intOf t a + intOf t b) = a + b := by
  rw [truncTo_add, truncTo_intOf, truncTo_intOf]

theorem truncTo_intOf_sub (t : Sign) {w : Nat} (a b : BitVec w) : truncTo w (intOf t a - intOf t b) = a - b := by
  rw [truncTo_sub, truncTo_intOf, truncTo_intOf]

theorem truncTo_add_two_pow (w : Nat) (i : Int) : truncTo w (i + 2 ^ w) = truncTo w i := by
  have hpow : truncTo w (2 ^ w) = 0 := by
    apply BitVec.eq_of_toNat_eq
    simp [truncTo, BitVec.toNat_ofInt]
  rw [truncTo_add, hpow]
  exact BitVec.add_zero _

/-- Every lane type has the integer 0. -/
theorem laneMin_nonpos (t : Sign) (w : Nat) : laneMin t w ≤ 0 :=
  (laneMin_le_intOf t (0 : BitVec w)).trans_eq (intOf_zero t w)

theorem laneMax_nonneg (t : Sign) (w : Nat) : 0 ≤ laneMax t w :=
  (intOf_zero t w).symm.trans_le (intOf_le_laneMax t (0 : BitVec w))

/-- The range of a lane type has `2^w` integers. -/
theorem laneMax_eq_laneMin_add (t : Sign) {w : Nat} (hw : 0 < w) : laneMax t w = laneMin t w + 2 ^ w - 1 := by
  obtain ⟨n, rfl⟩ := Nat.exists_eq_add_one.mpr hw
  cases t with
  | signed =>
    simp only [laneMax, laneMin, Nat.add_sub_cancel, pow_succ]
    omega
  | unsigned =>
    simp only [laneMax, laneMin]
    omega

theorem intOf_truncTo_of_lt {t : Sign} {w : Nat} {i : Int} (hw : 0 < w) (hlo : laneMin t w - 2 ^ w ≤ i)
    (h : i < laneMin t w) : intOf t (truncTo w i) = i + 2 ^ w := by
  have hrange := laneMax_eq_laneMin_add t hw
  rw [← truncTo_add_two_pow, intOf_truncTo hw (by omega) (by omega)]

theorem intOf_truncTo_of_gt {t : Sign} {w : Nat} {i : Int} (hw : 0 < w) (hhi : i ≤ laneMax t w + 2 ^ w)
    (h : laneMax t w < i) : intOf t (truncTo w i) = i - 2 ^ w := by
  have hrange := laneMax_eq_laneMin_add t hw
  rw [← Int.sub_add_cancel i (2 ^ w), truncTo_add_two_pow, intOf_truncTo hw (by omega) (by omega), Int.sub_add_cancel]

/-! ## Saturation at the bounds -/

theorem saturate_of_le_laneMin {t : Sign} {w : Nat} {i : Int} (h : i ≤ laneMin t w) :
    saturate t w i = truncTo w (laneMin t w) := by
  rw [saturate, clamp_of_le h (laneMin_le_laneMax t w)]

theorem saturate_of_laneMax_le {t : Sign} {w : Nat} {i : Int} (h : laneMax t w ≤ i) :
    saturate t w i = truncTo w (laneMax t w) := by
  rw [saturate, clamp_of_ge h (laneMin_le_laneMax t w)]

theorem intOf_saturate_of_lt {t : Sign} {w : Nat} {i : Int} (hw : 0 < w) (h : i < laneMin t w) :
    intOf t (saturate t w i) = laneMin t w := by
  rw [intOf_saturate hw, clamp_of_le h.le (laneMin_le_laneMax t w)]

theorem intOf_saturate_of_gt {t : Sign} {w : Nat} {i : Int} (hw : 0 < w) (h : laneMax t w < i) :
    intOf t (saturate t w i) = laneMax t w := by
  rw [intOf_saturate hw, clamp_of_ge h.le (laneMin_le_laneMax t w)]

theorem saturate_intOf (t : Sign) {w : Nat} (a : BitVec w) : saturate t w (intOf t a) = a := by
  rw [saturate_of_mem (laneMin_le_intOf t a) (intOf_le_laneMax t a), truncTo_intOf]

/-- An exact result less than `2^w` beyond a bound cannot wrap onto that bound. -/
theorem saturate_ne_truncTo_iff {t : Sign} {w : Nat} {i : Int} (hw : 0 < w) (hlo : laneMin t w - 2 ^ w < i)
    (hhi : i < laneMax t w + 2 ^ w) : saturate t w i ≠ truncTo w i ↔ i < laneMin t w ∨ laneMax t w < i := by
  constructor
  · contrapose!
    rintro ⟨hmin, hmax⟩
    exact saturate_of_mem hmin hmax
  · rintro (h | h) heq
    · have hint := congrArg (intOf t) heq
      rw [intOf_saturate_of_lt hw h, intOf_truncTo_of_lt hw hlo.le h] at hint
      omega
    · have hint := congrArg (intOf t) heq
      rw [intOf_saturate_of_gt hw h, intOf_truncTo_of_gt hw hhi.le h] at hint
      omega

/-! ## The sign test (40_saturating.md rule R81) -/

theorem sel_fill {n : Nat} (b : Bool) (x y : BitVec n) : sel (fill n b) x y = if b then x else y := by
  cases b with
  | false => simp [sel, fill]
  | true => simp [sel, fill]

theorem intOf_signed_neg_iff {w : Nat} (a : BitVec w) : intOf .signed a < 0 ↔ a.msb = true := by
  rw [BitVec.msb_eq_toInt, decide_eq_true_iff]
  rfl

/-- Where overflow goes toward the sign of `a` only, the limit with that sign is the bound overstepped. -/
theorem sel_limitOf_eq_saturate {w : Nat} {a : BitVec w} {i : Int} {ovf : Bool}
    (hovf : ovf = true ↔ i < laneMin .signed w ∨ laneMax .signed w < i)
    (hneg : intOf .signed a < 0 → i ≤ laneMax .signed w) (hnonneg : 0 ≤ intOf .signed a → laneMin .signed w ≤ i) :
    sel (fill w ovf) (limitOf a) (truncTo w i) = saturate .signed w i := by
  rw [sel_fill, limitOf]
  cases ovf with
  | false =>
    obtain ⟨hlo, hhi⟩ := not_or.mp (mt hovf.mpr Bool.false_ne_true)
    exact (saturate_of_mem (Int.not_lt.mp hlo) (Int.not_lt.mp hhi)).symm
  | true =>
    have hout := hovf.mp rfl
    rw [if_pos rfl]
    split
    next hmsb =>
      have hbelow := hneg ((intOf_signed_neg_iff a).mpr hmsb)
      exact (saturate_of_le_laneMin (by omega)).symm
    next hmsb =>
      have habove := hnonneg (Int.not_lt.mp (mt (intOf_signed_neg_iff a).mp hmsb))
      exact (saturate_of_laneMax_le (by omega)).symm

theorem saddOverflow_iff {w : Nat} (a b : BitVec w) : a.saddOverflow b = true ↔
    intOf .signed a + intOf .signed b < laneMin .signed w ∨ laneMax .signed w < intOf .signed a + intOf .signed b := by
  simp only [BitVec.saddOverflow, Bool.or_eq_true, decide_eq_true_iff, intOf, laneMin, laneMax]
  omega

theorem ssubOverflow_iff {w : Nat} (a b : BitVec w) : a.ssubOverflow b = true ↔
    intOf .signed a - intOf .signed b < laneMin .signed w ∨ laneMax .signed w < intOf .signed a - intOf .signed b := by
  simp only [BitVec.ssubOverflow, Bool.or_eq_true, decide_eq_true_iff, intOf, laneMin, laneMax]
  omega

/-- Operands of one sign, and a sum of the other. -/
theorem msb_add_signTest {w : Nat} (hw : 0 < w) (a b : BitVec w) :
    (~~~(a ^^^ b) &&& (a ^^^ (a + b))).msb = a.saddOverflow b := by
  have htable : ∀ x y z : Bool, ((true && !(x ^^ y)) && (x ^^ z)) = (x == y && !(z == x)) := by decide
  rw [BitVec.saddOverflow_eq, BitVec.msb_and, BitVec.msb_not, BitVec.msb_xor, BitVec.msb_xor, decide_eq_true hw]
  exact htable a.msb b.msb (a + b).msb

/-- Operands of two signs, and a difference without the sign of the minuend. -/
theorem msb_sub_signTest {w : Nat} (a b : BitVec w) : ((a ^^^ b) &&& (a ^^^ (a - b))).msb = a.ssubOverflow b := by
  have htable : ∀ x y z : Bool, ((x ^^ y) && (x ^^ z)) = (!x && y && z || x && !y && !z) := by decide
  rw [BitVec.ssubOverflow_eq, BitVec.msb_and, BitVec.msb_xor, BitVec.msb_xor]
  exact htable a.msb b.msb (a - b).msb

/-- A sum overflows toward the sign of either operand. -/
theorem satAddMechanism_eq_satAdd {w : Nat} (hw : 0 < w) (a b : BitVec w) :
    satAddMechanism a b = satAdd .signed a b := by
  have hlo := laneMin_le_intOf .signed b
  have hhi := intOf_le_laneMax .signed b
  have hovf := saddOverflow_iff a b
  rw [satAddMechanism, msb_add_signTest hw, ← truncTo_intOf_add .signed a b]
  exact sel_limitOf_eq_saturate hovf (by omega) (by omega)

/-- A difference overflows toward the sign of the minuend. -/
theorem satSubMechanism_eq_satSub {w : Nat} (a b : BitVec w) : satSubMechanism a b = satSub .signed a b := by
  have hlo := laneMin_le_intOf .signed b
  have hhi := intOf_le_laneMax .signed b
  have hmin := neg_laneMin_signed w
  have hovf := ssubOverflow_iff a b
  rw [satSubMechanism, msb_sub_signTest, ← truncTo_intOf_sub .signed a b]
  exact sel_limitOf_eq_saturate hovf (by omega) (by omega)

/-- Settles O40: the sign test is signed overflow, and overflow goes toward the sign of the first operand. -/
theorem signMechanismEqualsSignedSaturation : Obligations.SignMechanismEqualsSignedSaturation := by
  intro w a b
  exact ⟨satAddMechanism_eq_satAdd (width_bits_pos w) a b, satSubMechanism_eq_satSub a b⟩

/-! ## Doubling (45_doubling_saturate.md rule R151) -/

theorem shiftLeft_one_eq_add_self {w : Nat} (a : BitVec w) : a <<< 1 = a + a := by
  apply BitVec.eq_of_toNat_eq
  rw [BitVec.toNat_shiftLeft, BitVec.toNat_add, Nat.shiftLeft_eq, Nat.pow_one, Nat.mul_two]

/-- Equal operands have one sign, so of the sign test the change of sign is left. -/
theorem qdMechanism_eq_satAddMechanism_self {w : Nat} (a : BitVec w) : qdMechanism a = satAddMechanism a a := by
  rw [qdMechanism, satAddMechanism, shiftLeft_one_eq_add_self, BitVec.xor_self]
  simp

/-- Settles O48: doubling is adding a lane to itself, in the mechanisms and in the laws. -/
theorem shiftAndCompareSignsEqualsQd : Obligations.ShiftAndCompareSignsEqualsQd := by
  intro w a
  refine ⟨?_, qdMechanism_eq_satAddMechanism_self a⟩
  rw [qdMechanism_eq_satAddMechanism_self, satAddMechanism_eq_satAdd (width_bits_pos w), satAdd_self]

/-! ## Carry and borrow (40_saturating.md rules R83 and R85) -/

theorem truncTo_laneMax_unsigned (w : Nat) : truncTo w (laneMax .unsigned w) = BitVec.allOnes w := by
  rw [laneMax, truncTo_sub, ← Int.zero_add (2 ^ w), truncTo_add_two_pow]
  exact (BitVec.zero_sub _).trans BitVec.neg_one_eq_allOnes

/-- The wrapped sum falls below an operand exactly where the exact one passes `UMAX`. -/
theorem add_toNat_lt_iff {w : Nat} (hw : 0 < w) (a b : BitVec w) :
    (a + b).toNat < a.toNat ↔ laneMax .unsigned w < intOf .unsigned a + intOf .unsigned b := by
  have hb := intOf_le_laneMax .unsigned b
  have ha := intOf_le_laneMax .unsigned a
  have hmax : laneMax .unsigned w = 2 ^ w - 1 := rfl
  have hsum : (a + b).toNat = intOf .unsigned (truncTo w (intOf .unsigned a + intOf .unsigned b)) := by
    rw [truncTo_intOf_add]
    rfl
  simp only [intOf] at ha hb
  rcases lt_or_ge (laneMax .unsigned w) (intOf .unsigned a + intOf .unsigned b) with h | h
  · rw [intOf_truncTo_of_gt hw (by simp only [intOf]; omega) h] at hsum
    simp only [intOf] at h hsum ⊢
    omega
  · rw [intOf_truncTo hw (by simp only [intOf, laneMin]; omega) h] at hsum
    simp only [intOf] at h hsum ⊢
    omega

theorem satAddCarry_eq_satAdd {w : Nat} (hw : 0 < w) (a b : BitVec w) : satAddCarry a b = satAdd .unsigned a b := by
  rw [satAddCarry, satAdd]
  split
  next h =>
    have hover := (add_toNat_lt_iff hw a b).mp h
    rw [saturate_of_laneMax_le hover.le, truncTo_laneMax_unsigned]
  next h =>
    have hmin : laneMin .unsigned w ≤ intOf .unsigned a + intOf .unsigned b :=
      Int.add_nonneg (laneMin_le_intOf .unsigned a) (laneMin_le_intOf .unsigned b)
    have hmax := Int.not_lt.mp (mt (add_toNat_lt_iff hw a b).mpr h)
    rw [saturate_of_mem hmin hmax, truncTo_intOf_add]

theorem satSubBorrow_eq_satSub {w : Nat} (a b : BitVec w) : satSubBorrow a b = satSub .unsigned a b := by
  have ha := intOf_le_laneMax .unsigned a
  have hzero : laneMin .unsigned w = 0 := rfl
  have hb : 0 ≤ intOf .unsigned b := laneMin_le_intOf .unsigned b
  have hborrow : a.toNat < b.toNat ↔ intOf .unsigned a < intOf .unsigned b := Int.ofNat_lt.symm
  rw [satSubBorrow, satSub]
  split
  next h =>
    have hbelow := hborrow.mp h
    rw [saturate_of_le_laneMin (by omega), hzero]
    rfl
  next h =>
    have hnot := Int.not_lt.mp (mt hborrow.mpr h)
    rw [saturate_of_mem (by omega) (by omega), truncTo_intOf_sub]

/-- Settles O41: carry and borrow are the exact result beyond a bound of the unsigned lane. -/
theorem carryAndBorrowTestsEqualUnsignedSaturation : Obligations.CarryAndBorrowTestsEqualUnsignedSaturation := by
  intro w a b
  exact ⟨satAddCarry_eq_satAdd (width_bits_pos w) a b, satSubBorrow_eq_satSub a b⟩

/-! ## Algebra of the family (40_saturating.md section 5) -/

theorem satAdd_comm (t : Sign) {w : Nat} (a b : BitVec w) : satAdd t a b = satAdd t b a := by
  rw [satAdd, satAdd, Int.add_comm]

theorem satAdd_zero (t : Sign) {w : Nat} (a : BitVec w) : satAdd t a 0 = a := by
  rw [satAdd, intOf_zero, Int.add_zero, saturate_intOf]

theorem satSub_zero (t : Sign) {w : Nat} (a : BitVec w) : satSub t a 0 = a := by
  rw [satSub, intOf_zero, Int.sub_zero, saturate_intOf]

theorem satSub_self (t : Sign) {w : Nat} (a : BitVec w) : satSub t a a = 0 := by
  rw [satSub, Int.sub_self, ← intOf_zero t w, saturate_intOf]

theorem satAbs_eq_ite_satNeg (t : Sign) {w : Nat} (a : BitVec w) :
    satAbs t a = if intOf t a < 0 then satNeg t a else a := by
  rw [satAbs, satNeg]
  split
  · rfl
  · exact saturate_intOf t a

theorem satAdd_ne_add_iff (t : Sign) {w : Nat} (hw : 0 < w) (a b : BitVec w) :
    satAdd t a b ≠ a + b ↔ intOf t a + intOf t b < laneMin t w ∨ laneMax t w < intOf t a + intOf t b := by
  have hrange := laneMax_eq_laneMin_add t hw
  have ha := laneMin_le_intOf t a
  have ha' := intOf_le_laneMax t a
  have hb := laneMin_le_intOf t b
  have hb' := intOf_le_laneMax t b
  have hzero := laneMin_nonpos t w
  have hzero' := laneMax_nonneg t w
  rw [satAdd, ← truncTo_intOf_add t a b]
  exact saturate_ne_truncTo_iff hw (by omega) (by omega)

theorem satSub_ne_sub_iff (t : Sign) {w : Nat} (hw : 0 < w) (a b : BitVec w) :
    satSub t a b ≠ a - b ↔ intOf t a - intOf t b < laneMin t w ∨ laneMax t w < intOf t a - intOf t b := by
  have hrange := laneMax_eq_laneMin_add t hw
  have ha := laneMin_le_intOf t a
  have ha' := intOf_le_laneMax t a
  have hb := laneMin_le_intOf t b
  have hb' := intOf_le_laneMax t b
  have hzero := laneMin_nonpos t w
  have hzero' := laneMax_nonneg t w
  rw [satSub, ← truncTo_intOf_sub t a b]
  exact saturate_ne_truncTo_iff hw (by omega) (by omega)

/-- Settles O49: the saturated result differs from the wrapped one where the exact one is beyond a bound, and is the bound. -/
theorem saturationActsExactlyOutsideTheRange : Obligations.SaturationActsExactlyOutsideTheRange := by
  intro w t a b
  have hw := width_bits_pos w
  exact ⟨satAdd_comm t a b, satAdd_zero t a, satSub_zero t a, satSub_self t a, satAbs_eq_ite_satNeg .signed a,
    satAdd_ne_add_iff t hw a b, satSub_ne_sub_iff t hw a b, intOf_saturate_of_lt hw, intOf_saturate_of_gt hw,
    intOf_saturate_of_lt hw, intOf_saturate_of_gt hw⟩

end Sys2Proof.Machine
end

section
/-! The halving mechanisms that shift or correct (41_halving.md rules R106, R107 and R109), and the order of the halving results
(section 4). Both turn on bit 0: it is the parity of a lane's integer, and the bit 0 of `a ^ b` the parity of a sum. -/

namespace Sys2Proof.Machine

/-! ## Parity -/

theorem intOf_emod_two (t : Sign) {w : Nat} (v : BitVec w) : intOf t v % 2 = (v.getLsbD 0).toNat := by
  have hbit : v.toNat % 2 = (v.getLsbD 0).toNat := by
    rw [BitVec.getLsbD, Nat.testBit_zero]
    rcases Nat.mod_two_eq_zero_or_one v.toNat with h | h
    · rw [h]; rfl
    · rw [h]; rfl
  cases t with
  | unsigned =>
    rw [intOf]
    exact_mod_cast hbit
  | signed =>
    cases w with
    | zero => rw [BitVec.eq_nil v]; rfl
    | succ n =>
      rw [intOf, toInt_eq_toNat_sub_msb, pow_succ, mul_assoc, mul_left_comm, Int.sub_mul_emod_self_left]
      exact_mod_cast hbit

/-- Bits that both operands have add an even number. -/
theorem intOf_add_emod_two (t : Sign) {w : Nat} (a b : BitVec w) :
    (intOf t a + intOf t b) % 2 = ((a ^^^ b).getLsbD 0).toNat := by
  rw [intOf_add_eq_and_mul_two_add_xor, ← intOf_emod_two t, Int.add_comm, Int.add_mul_emod_self_right]

theorem lowBit_eq_truncTo {w : Nat} (v : BitVec w) : lowBit v = truncTo w (v.getLsbD 0).toNat := by
  have hbit : intOf .unsigned (v.extractLsb' 0 1) = intOf .unsigned v % 2 := by
    simp [intOf, BitVec.extractLsb'_toNat]
  rw [← intOf_emod_two .unsigned v, ← hbit]
  exact (extend_unsigned w _).symm

/-! ## Halves and parity -/

theorem floorHalf_mul_two_add_emod_two (i : Int) : floorHalf i * 2 + i % 2 = i :=
  Int.ediv_mul_add_emod i 2

theorem floorHalf_add_one (i : Int) : floorHalf (i + 1) = floorHalf i + i % 2 := by
  unfold floorHalf
  omega

/-- The two halves cut off one each half of the odd operands, and rounding up restores one. -/
theorem floorHalf_add_add_one {i j : Int} {b c : Bool} (hi : i % 2 = b.toNat) (hj : j % 2 = c.toNat) :
    floorHalf (i + j + 1) = floorHalf i + floorHalf j + (b || c).toNat := by
  have hor : (b || c).toNat = max b.toNat c.toNat := by cases b <;> cases c <;> rfl
  have hb := Bool.toNat_le b
  have hc := Bool.toNat_le c
  unfold floorHalf
  omega

/-! ## Shift and correct (41_halving.md rule R109) -/

theorem rhaddMechanism_eq_rhadd (t : Sign) {w : Nat} (a b : BitVec w) : rhaddMechanism t a b = rhadd t a b := by
  have hhalves := floorHalf_add_add_one (intOf_emod_two t a) (intOf_emod_two t b)
  rw [rhadd, hhalves, ← BitVec.getLsbD_or, truncTo_add, truncTo_add, ← halve_eq_truncTo, ← halve_eq_truncTo,
    ← lowBit_eq_truncTo, rhaddMechanism]

theorem haddFromAverage_eq_hadd {w : Nat} (a b : BitVec w) : haddFromAverage a b = hadd .unsigned a b := by
  rw [haddFromAverage, rhadd, hadd, floorHalf_add_one, lowBit_eq_truncTo, ← intOf_add_emod_two .unsigned, ← truncTo_sub,
    Int.add_sub_cancel]

/-- Settles O43: the correction is the carry of the two discarded bits with the rounding bit. -/
theorem shiftAndCorrectEqualsRhadd : Obligations.ShiftAndCorrectEqualsRhadd := by
  intro w a b
  exact ⟨fun t => rhaddMechanism_eq_rhadd t a b, haddFromAverage_eq_hadd a b⟩

/-! ## Xor and borrow (41_halving.md rules R106 and R107) -/

/-- The identity of a sum, read for `b` and `a ^ b`, whose differing bits are `a`. -/
theorem intOf_sub_eq_xor_sub_mul_two (t : Sign) {w : Nat} (a b : BitVec w) :
    intOf t a - intOf t b = intOf t (a ^^^ b) - intOf t (~~~a &&& b) * 2 := by
  have hboth : b &&& (a ^^^ b) = ~~~a &&& b := by
    ext i
    simp only [BitVec.getElem_and, BitVec.getElem_xor, BitVec.getElem_not]
    cases a[i] <;> cases b[i] <;> rfl
  have hone : b ^^^ (a ^^^ b) = a := by
    rw [BitVec.xor_comm a, ← BitVec.xor_assoc, BitVec.xor_self, BitVec.zero_xor]
  have hsum := intOf_add_eq_and_mul_two_add_xor t b (a ^^^ b)
  rw [hboth, hone] at hsum
  omega

theorem floorHalf_sub_mul_two (i j : Int) : floorHalf (i - j * 2) = floorHalf i - j := by
  unfold floorHalf
  omega

theorem hsubMechanism_eq_hsub (t : Sign) {w : Nat} (a b : BitVec w) : hsubMechanism t a b = hsub t a b := by
  rw [hsub, intOf_sub_eq_xor_sub_mul_two, floorHalf_sub_mul_two, truncTo_sub, truncTo_intOf, ← halve_eq_truncTo,
    hsubMechanism]

/-- Settles O44: the mechanism by the identity it rests on. -/
theorem xorAndBorrowEqualsHsub : Obligations.XorAndBorrowEqualsHsub := by
  intro w t a b
  exact hsubMechanism_eq_hsub t a b

/-! ## Order, sum and ties (41_halving.md section 4) -/

theorem intOf_inj {t : Sign} {w : Nat} {a b : BitVec w} : intOf t a = intOf t b ↔ a = b := by
  constructor
  · intro h
    rw [← truncTo_intOf t a, h, truncTo_intOf]
  · rintro rfl
    rfl

theorem intOf_rhadd_eq_hadd_add (w : Width) (t : Sign) (a b : BitVec w.bits) :
    intOf t (rhadd t a b) = intOf t (hadd t a b) + ((a ^^^ b).getLsbD 0).toNat := by
  rw [intOf_rhadd, intOf_hadd, floorHalf_add_one, intOf_add_emod_two]

theorem two_mul_intOf_hadd_add (w : Width) (t : Sign) (a b : BitVec w.bits) :
    2 * intOf t (hadd t a b) + ((a ^^^ b).getLsbD 0).toNat = intOf t a + intOf t b := by
  have hdiv := floorHalf_mul_two_add_emod_two (intOf t a + intOf t b)
  rw [intOf_hadd, ← intOf_add_emod_two t]
  omega

theorem hadd_eq_rhadd_iff (w : Width) (t : Sign) (a b : BitVec w.bits) :
    hadd t a b = rhadd t a b ↔ (a ^^^ b).getLsbD 0 = false := by
  rw [← intOf_inj (t := t), intOf_rhadd_eq_hadd_add]
  cases (a ^^^ b).getLsbD 0 with
  | false => simp
  | true => simp

theorem hsub_self (t : Sign) {w : Nat} (a : BitVec w) : hsub t a a = 0 := by
  rw [hsub, Int.sub_self]
  rfl

/-- Half a difference of signed lanes is in range, since `SMAX - SMIN` is `2 * SMAX + 1`. -/
theorem intOf_hsub_signed (w : Width) (a b : BitVec w.bits) :
    intOf .signed (hsub .signed a b) = floorHalf (intOf .signed a - intOf .signed b) := by
  have halo := laneMin_le_intOf .signed a
  have hahi := intOf_le_laneMax .signed a
  have hblo := laneMin_le_intOf .signed b
  have hbhi := intOf_le_laneMax .signed b
  have hmin := neg_laneMin_signed w.bits
  exact intOf_truncTo_floorHalf (width_bits_pos w) (by omega) (by omega)

theorem two_mul_toInt_hsub_add (w : Width) (a b : BitVec w.bits) :
    2 * (hsub .signed a b).toInt + ((a ^^^ b).getLsbD 0).toNat = a.toInt - b.toInt := by
  have hparity := intOf_emod_two .signed (a ^^^ b)
  have hdiff := intOf_sub_eq_xor_sub_mul_two .signed a b
  have hhalf := intOf_hsub_signed w a b
  unfold floorHalf at hhalf
  simp only [intOf] at hparity hdiff hhalf
  omega

/-- Settles O52: twice the halving add and the parity are the sum, and rounding adds the parity. -/
theorem halvingResultsAreOrderedAndAddUp : Obligations.HalvingResultsAreOrderedAndAddUp := by
  intro w t a b
  have hround := intOf_rhadd_eq_hadd_add w t a b
  have hsum := two_mul_intOf_hadd_add w t a b
  have hdiff := two_mul_toInt_hsub_add w a b
  have hparity := intOf_add_emod_two t a b
  have hbit : ((a ^^^ b).getLsbD 0).toNat ≤ 1 := Bool.toNat_le _
  have hite : (((a ^^^ b).getLsbD 0).toNat : Int) = if (a ^^^ b).getLsbD 0 then 1 else 0 := by
    cases (a ^^^ b).getLsbD 0 <;> rfl
  refine ⟨by omega, by omega, hadd_eq_rhadd_iff w t a b, by omega, by omega, by omega, ?ties, hsub_self t a, ?hsub⟩
  case ties => intro hodd; constructor <;> omega
  case hsub => rwa [hite] at hdiff

end Sys2Proof.Machine
end

section
/-! Narrowing against the discarded bits and against widening (42_widen_narrow.md rule R124 and section 4). A lane whose integer
fits the narrow lane is the extension of its low bits, so the bits above them tell whether it fits. -/

namespace Sys2Proof.Machine

/-! ## Truncation -/

/-- Truncation keeps the integer modulo `2^h`, whatever the type letter. -/
theorem truncTo_intOf_eq_narrow (t : Sign) {w h : Nat} (hh : h ≤ w) (a : BitVec w) : truncTo h (intOf t a) = narrow h a := by
  rw [narrow, ← BitVec.setWidth_eq_extractLsb' hh]
  cases t with
  | signed => exact BitVec.signExtend_eq_setWidth_of_le a hh
  | unsigned => exact extend_unsigned h a

theorem narrow_extend (t : Sign) {w h : Nat} (hw : 0 < w) (hh : h ≤ w) (x : BitVec h) : narrow h (extend t w x) = x := by
  rw [← truncTo_intOf_eq_narrow t hh, intOf_extend t hw hh, truncTo_intOf]

theorem narrowSat_eq_narrow_of_mem {t : Sign} {w h : Nat} (hh : h ≤ w) {a : BitVec w} (hlo : laneMin t h ≤ intOf t a)
    (hhi : intOf t a ≤ laneMax t h) : narrowSat t h a = narrow h a := by
  rw [narrowSat, saturate_of_mem hlo hhi, truncTo_intOf_eq_narrow t hh]

/-- A lane fits `h` bits exactly when extending its low `h` bits gives it back. -/
theorem extend_narrow_eq_iff (t : Sign) {w h : Nat} (hpos : 0 < h) (hh : h ≤ w) (a : BitVec w) :
    extend t w (narrow h a) = a ↔ laneMin t h ≤ intOf t a ∧ intOf t a ≤ laneMax t h := by
  constructor
  · intro heq
    rw [← heq, intOf_extend t (by omega) hh]
    exact ⟨laneMin_le_intOf t _, intOf_le_laneMax t _⟩
  · rintro ⟨hlo, hhi⟩
    rw [← truncTo_intOf_eq_narrow t hh, extend, intOf_truncTo hpos hlo hhi, truncTo_intOf]

/-! ## The discarded bits (42_widen_narrow.md rule R124) -/

/-- The bit an extension repeats above a lane: its sign bit, or zero for an unsigned lane. -/
def extensionBit (t : Sign) {w : Nat} (a : BitVec w) : Bool :=
  match t with
  | .signed => a.msb
  | .unsigned => false

theorem getLsbD_extend (t : Sign) {w n : Nat} (a : BitVec w) (j : Nat) :
    (extend t n a).getLsbD j = (decide (j < n) && if j < w then a.getLsbD j else extensionBit t a) := by
  cases t with
  | signed => exact BitVec.getLsbD_signExtend a
  | unsigned =>
    rw [extend_unsigned, BitVec.zeroExtend, BitVec.getLsbD_setWidth]
    split
    · rfl
    next h => rw [BitVec.getLsbD_of_ge a j (Nat.not_lt.mp h), extensionBit]

theorem extend_narrow_eq_iff_discarded (t : Sign) {w h : Nat} (hh : h ≤ w) (a : BitVec w) :
    extend t w (narrow h a) = a ↔ discarded h a = fill (w - h) (extensionBit t (narrow h a)) := by
  constructor
  · intro heq
    apply BitVec.eq_of_getLsbD_eq
    intro j hj
    have hbit := congrArg (fun v => v.getLsbD (h + j)) heq
    simp only [getLsbD_extend] at hbit
    rw [discarded, BitVec.getLsbD_extractLsb', ← hbit, getLsbD_fill]
    have hplace : h + j < w := by omega
    simp [hj, hplace]
  · intro heq
    apply BitVec.eq_of_getLsbD_eq
    intro j hj
    rw [getLsbD_extend, decide_eq_true hj, Bool.true_and]
    split
    next hlow => simp [narrow, hlow]
    next hhigh =>
      have hbit := congrArg (fun v => v.getLsbD (j - h)) heq
      simp only [discarded, getLsbD_fill, BitVec.getLsbD_extractLsb'] at hbit
      have hplace : h + (j - h) = j := by omega
      have hlt : j - h < w - h := by omega
      simpa [hplace, hlt] using hbit.symm

/-- The discarded bits repeat the extension bit exactly when the lane fits. -/
theorem discarded_eq_fill_iff (t : Sign) {w h : Nat} (hpos : 0 < h) (hh : h ≤ w) (a : BitVec w) :
    discarded h a = fill (w - h) (extensionBit t (narrow h a)) ↔ laneMin t h ≤ intOf t a ∧ intOf t a ≤ laneMax t h :=
  (extend_narrow_eq_iff_discarded t hh a).symm.trans (extend_narrow_eq_iff t hpos hh a)

theorem narrowSatSignedMechanism_eq_narrowSat {w h : Nat} (hpos : 0 < h) (hh : h ≤ w) (a : BitVec w) :
    narrowSatSignedMechanism h a = narrowSat .signed h a := by
  have hfits := discarded_eq_fill_iff .signed hpos hh a
  have hlo := laneMin_nonpos .signed h
  have hhi := laneMax_nonneg .signed h
  rw [narrowSatSignedMechanism]
  split
  next heq =>
    obtain ⟨hmin, hmax⟩ := hfits.mp heq
    exact (narrowSat_eq_narrow_of_mem hh hmin hmax).symm
  next hne =>
    have hout := mt hfits.mpr hne
    split
    next hmsb =>
      have hneg := (intOf_signed_neg_iff a).mpr hmsb
      exact (saturate_of_le_laneMin (by omega)).symm
    next hmsb =>
      have hnonneg := mt (intOf_signed_neg_iff a).mp hmsb
      exact (saturate_of_laneMax_le (by omega)).symm

/-- An unsigned lane can pass the upper bound only. -/
theorem narrowSatUnsignedMechanism_eq_narrowSat {w h : Nat} (hpos : 0 < h) (hh : h ≤ w) (a : BitVec w) :
    narrowSatUnsignedMechanism h a = narrowSat .unsigned h a := by
  have hfits : discarded h a = 0 ↔ _ := discarded_eq_fill_iff .unsigned hpos hh a
  have hmin : laneMin .unsigned h ≤ intOf .unsigned a := laneMin_le_intOf .unsigned a
  rw [narrowSatUnsignedMechanism]
  split
  next heq =>
    obtain ⟨-, hmax⟩ := hfits.mp heq
    exact (narrowSat_eq_narrow_of_mem hh hmin hmax).symm
  next hne =>
    have hout := mt hfits.mpr hne
    rw [narrowSat, saturate_of_laneMax_le (by omega), truncTo_laneMax_unsigned]

theorem narrowSatun_of_neg {w : Nat} (h : Nat) {a : BitVec w} (ha : intOf .signed a < 0) : narrowSatun h a = 0 :=
  saturate_of_le_laneMin ha.le

theorem intOf_signed_of_nonneg {w : Nat} {a : BitVec w} (ha : 0 ≤ intOf .signed a) : intOf .signed a = intOf .unsigned a := by
  have hmsb := mt (intOf_signed_neg_iff a).mpr (Int.not_lt.mpr ha)
  rw [intOf, intOf, toInt_eq_toNat_sub_msb, Bool.eq_false_of_not_eq_true hmsb]
  simp

theorem narrowSatun_of_nonneg {w : Nat} (h : Nat) {a : BitVec w} (ha : 0 ≤ intOf .signed a) :
    narrowSatun h a = narrowSat .unsigned h a := by
  rw [narrowSatun, narrowSat, intOf_signed_of_nonneg ha]

theorem narrowSatunMechanism_eq_narrowSatun {w h : Nat} (hpos : 0 < h) (hh : h ≤ w) (a : BitVec w) :
    narrowSatunMechanism h a = narrowSatun h a := by
  rw [narrowSatunMechanism]
  split
  next hmsb => exact (narrowSatun_of_neg h ((intOf_signed_neg_iff a).mpr hmsb)).symm
  next hmsb =>
    have hnonneg := Int.not_lt.mp (mt (intOf_signed_neg_iff a).mp hmsb)
    rw [narrowSatun_of_nonneg h hnonneg, ← narrowSatUnsignedMechanism_eq_narrowSat hpos hh, narrowSatUnsignedMechanism]

theorem half_bits_pos (w : Width) : 0 < w.bits / 2 := by
  cases w <;> decide

theorem half_bits_le (w : Width) : w.bits / 2 ≤ w.bits :=
  Nat.div_le_self _ _

/-- Settles O46: each test holds exactly where the lane fits. -/
theorem discardedBitsTestEqualsSaturatingNarrow : Obligations.DiscardedBitsTestEqualsSaturatingNarrow := by
  intro w _ a
  have hpos := half_bits_pos w
  have hle := half_bits_le w
  exact ⟨narrowSatSignedMechanism_eq_narrowSat hpos hle a, narrowSatUnsignedMechanism_eq_narrowSat hpos hle a,
    narrowSatunMechanism_eq_narrowSatun hpos hle a⟩

/-! ## Round trips (42_widen_narrow.md section 4) -/

theorem narrowSat_extend (t : Sign) {w h : Nat} (hw : 0 < w) (hh : h ≤ w) (x : BitVec h) :
    narrowSat t h (extend t w x) = x := by
  rw [narrowSat, intOf_extend t hw hh, saturate_intOf]

theorem narrowSatun_extend_signed {w h : Nat} (hw : 0 < w) (hh : h ≤ w) (x : BitVec h) :
    narrowSatun h (extend .signed w x) = if x.toInt < 0 then 0 else x := by
  rw [narrowSatun, intOf_extend .signed hw hh]
  split
  next hneg => exact saturate_of_le_laneMin hneg.le
  next hnonneg => rw [intOf_signed_of_nonneg (Int.not_lt.mp hnonneg), saturate_intOf]

theorem extend_narrowSat (t : Sign) {w h : Nat} (hpos : 0 < h) (v : BitVec w) :
    extend t w (narrowSat t h v) = truncTo w (clamp (intOf t v) (laneMin t h) (laneMax t h)) := by
  rw [extend, narrowSat, intOf_saturate hpos]

/-- Settles O53: extending keeps the integer of a lane, and narrowing keeps one that fits. -/
theorem narrowingUndoesWidening : Obligations.NarrowingUndoesWidening := by
  intro w _
  have hpos := half_bits_pos w
  have hle := half_bits_le w
  have hw := width_bits_pos w
  refine ⟨fun x => ⟨fun t => ?_, narrowSatun_extend_signed hw hle x⟩, fun v => ⟨fun t => ?_, ?_⟩⟩
  · exact ⟨narrow_extend t hw hle x, narrowSat_extend t hw hle x⟩
  · exact narrowSat_eq_narrow_of_mem hle
  · exact extend_narrowSat .signed hpos v

/-! ## Agreement out of range (assumption log entry 12) -/

theorem exists_intOf_eq {t : Sign} {w : Nat} {i : Int} (hw : 0 < w) (hlo : laneMin t w ≤ i) (hhi : i ≤ laneMax t w) :
    ∃ v : BitVec w, intOf t v = i :=
  ⟨truncTo w i, intOf_truncTo hw hlo hhi⟩

/-- An integer `2^h` above the upper bound of the narrow lane wraps onto that bound. -/
theorem narrowSat_eq_narrow_of_intOf_eq {t : Sign} {w h : Nat} (hh : h ≤ w) {v : BitVec w}
    (hv : intOf t v = laneMax t h + 2 ^ h) : narrowSat t h v = narrow h v := by
  have hpow : (0 : Int) < 2 ^ h := by positivity
  rw [narrowSat, saturate_of_laneMax_le (by omega), ← truncTo_intOf_eq_narrow t hh, hv, truncTo_add_two_pow]

theorem laneMax_half_add_two_pow_le {w : Width} (hw : w ≠ .w8) (t : Sign) :
    laneMax t (w.bits / 2) + 2 ^ (w.bits / 2) ≤ laneMax t w.bits := by
  cases w with
  | w8 => exact absurd rfl hw
  | _ => cases t <;> decide

/-- Settles O54 with the lane `MAX + 2^H`, at 16 bits `0x01FF` unsigned and `0x017F` signed. -/
theorem narrowingsMayAgreeOutOfRange : Obligations.NarrowingsMayAgreeOutOfRange := by
  intro w hw t
  have hpow : (0 : Int) < 2 ^ (w.bits / 2) := by positivity
  have hmax := laneMax_nonneg t (w.bits / 2)
  have hmin := laneMin_nonpos t w.bits
  obtain ⟨v, hv⟩ := exists_intOf_eq (width_bits_pos w) (by omega) (laneMax_half_add_two_pow_le hw t)
  exact ⟨v, by omega, narrowSat_eq_narrow_of_intOf_eq (half_bits_le w) hv⟩

end Sys2Proof.Machine
end

section
/-! What one register value shows through several lanes: extract and insert undo each other (43_lane_access.md section 4), and a
wide lane is a pair of narrow ones (20_memory.md section 2). -/

namespace Sys2Proof.Machine

/-! ## Extract after insert (43_lane_access.md section 4) -/

/-- The next state of an insert: the inputs stay and `R` is `A` cut to the register size, one lane replaced. -/
theorem exec_ofInsertLane_next {q : RegSize} {t : Sign} {w : Width} {s s₁ : State}
    (hlt : s.inputs.idx.toNat < laneCount q w.bits) (h : exec (.ofInsertLane q t w) s = .next s₁) :
    s₁.inputs = s.inputs ∧ s₁.outputs.r.toNat < 2 ^ q.bits ∧ ∀ k, k < laneCount q w.bits →
      lane w.bits s₁.outputs.r k =
        if k = s.inputs.idx.toNat then s.inputs.s.setWidth w.bits else lane w.bits s.inputs.a k := by
  rw [exec_ofInsertLane] at h
  obtain ⟨t', ht', hinputs, -, hr, hlanes⟩ := insertLane_drivesLanes hlt
  obtain rfl : t' = s₁ := Host.Outcome.next.inj (ht'.symm.trans h)
  rw [laneCount_mul_bits] at hr
  exact ⟨hinputs, hr, hlanes⟩

/-- What `extract_lane` drives, by the operand and the index it is presented with. -/
theorem exec_ofExtractLane_drivesScalar {q : RegSize} {w : Width} {s : State} {x : BitVec w.bits} (t : Sign)
    (h : s.inputs.idx.toNat < laneCount q w.bits) (hx : lane w.bits s.inputs.a s.inputs.idx.toNat = x) :
    DrivesScalar s (exec (.ofExtractLane q t w) s) (extend t 64 x) := by
  rw [exec_ofExtractLane, ← hx]
  exact extractLane_drivesScalar t h

/-- Inserting reads no lane of `A` at the index, and the other lanes are the same before and after an insert there. -/
theorem resultOf_insertLane_congr_lanes {q : RegSize} {w : Width} {s s' : State} (hs : s.inputs.s = s'.inputs.s)
    (hidx : s.inputs.idx = s'.inputs.idx) (hlt : s.inputs.idx.toNat < laneCount q w.bits)
    (ha : ∀ k, k < laneCount q w.bits → k ≠ s.inputs.idx.toNat →
      lane w.bits s.inputs.a k = lane w.bits s'.inputs.a k) :
    resultOf (insertLane q w s) = resultOf (insertLane q w s') := by
  rw [insertLane_of_lt hlt, insertLane_of_lt (hidx ▸ hlt), resultOf_driveR, resultOf_driveR, ← hs, ← hidx]
  congr 2
  refine pack_congr fun k hk => ?_
  split
  · rfl
  next hne => exact ha k hk hne

/-- Settles O55: after an insert the lanes of the result are known, and both commands read `A` through its lanes only. -/
theorem extractAfterInsertReadsWhatWasInserted : Obligations.ExtractAfterInsertReadsWhatWasInserted := by
  intro q t u w s s₁ hlt h
  obtain ⟨hinputs, hr, hlanes⟩ := exec_ofInsertLane_next hlt h
  have hidx : s₁.inputs.idx = s.inputs.idx := congrArg Inputs.idx hinputs
  refine ⟨?same, fun j hj hjlt => ?other, fun hown => ?own, fun v => ?again⟩
  case same =>
    have hread : lane w.bits s₁.outputs.r s₁.inputs.idx.toNat = s.inputs.s.setWidth w.bits := by
      rw [hidx, hlanes _ hlt, if_pos rfl]
    have hdrives := exec_ofExtractLane_drivesScalar (s := s₁.feedback) .unsigned (hidx ▸ hlt) hread
    rwa [extend_unsigned] at hdrives
  case other =>
    have hne : j.toNat ≠ s.inputs.idx.toNat := mt BitVec.eq_of_toNat_eq hj
    have hread : lane w.bits s₁.outputs.r j.toNat = lane w.bits s.inputs.a j.toNat := by
      rw [hlanes _ hjlt, if_neg hne]
    exact ⟨_, exec_ofExtractLane_drivesScalar u hjlt rfl, exec_ofExtractLane_drivesScalar u hjlt hread⟩
  case own =>
    have hcut := cut_toNat_lt q s.inputs.a
    rw [← laneCount_mul_bits q w] at hr hcut
    refine eq_of_lanes (width_bits_pos w) hr hcut fun k hk => ?_
    rw [hlanes k hk, lane_cut s.inputs.a hk]
    split
    next hk => rw [hown, hk]
    next => rfl
  case again =>
    rw [exec_ofInsertLane, exec_ofInsertLane]
    refine resultOf_insertLane_congr_lanes rfl hidx (hidx ▸ hlt) fun k hk hne => ?_
    exact (hlanes k hk).trans (if_neg (hidx ▸ hne))

/-! ## Lanes of two widths (20_memory.md section 2) -/

theorem lane_toNat (w : Nat) (v : Vec) (k : Nat) : (lane w v k).toNat = v.toNat / 2 ^ (k * w) % 2 ^ w := by
  rw [lane, BitVec.extractLsb'_toNat, Nat.shiftRight_eq_div_pow]

/-- The bits from `k * 2w` on, two times `w` of them. -/
theorem lane_two_mul_toNat (w : Nat) (v : Vec) (k : Nat) :
    (lane (2 * w) v k).toNat = (lane w v (2 * k + 1)).toNat * 2 ^ w + (lane w v (2 * k)).toNat := by
  have hlow : k * (2 * w) = 2 * k * w := by ring
  have hhigh : (2 * k + 1) * w = 2 * k * w + w := by ring
  have hboth : 2 * w = w + w := Nat.two_mul w
  rw [lane_toNat, lane_toNat, lane_toNat, hlow, hhigh, hboth, pow_add, pow_add, Nat.mod_mul, Nat.div_div_eq_div_mul,
    Nat.add_comm, Nat.mul_comm (2 ^ w)]

theorem lane_two_mul_setWidth (w : Nat) (v : Vec) (k : Nat) : (lane (2 * w) v k).setWidth w = lane w v (2 * k) := by
  apply BitVec.eq_of_toNat_eq
  rw [BitVec.toNat_setWidth, lane_two_mul_toNat, Nat.mul_add_mod', Nat.mod_eq_of_lt (lane w v (2 * k)).isLt]

/-- Settles O57: the low byte is the case of lanes of 8 and 16 bits. -/
theorem wideLanesArePairsOfNarrowLanes : Obligations.WideLanesArePairsOfNarrowLanes := by
  refine ⟨lane_two_mul_toNat, fun v j b hb => ?_, lane_two_mul_setWidth 8⟩
  rw [lane_getLsbD, decide_eq_true hb, Bool.true_and, Nat.mul_comm]

end Sys2Proof.Machine
end

section
/-! Table lookup register by register (44_table_lookup.md rule R144), and the relations between lookups over tables of
different sizes (section 3). An index lies in the range of one register at most, and of one below `N` exactly when it is in
range of the table. -/

namespace Sys2Proof.Machine

/-! ## Range and select (44_table_lookup.md rule R144) -/

theorem lookup_of_lt {n : TableCount} {q : RegSize} {p : Inputs} {i : Nat} {fallback : BitVec 8}
    (h : i < n.count * byteCount q) : lookup n q p i fallback = p.tableByte q i :=
  if_pos h

theorem lookup_of_le {n : TableCount} {q : RegSize} {p : Inputs} {i : Nat} {fallback : BitVec 8}
    (h : n.count * byteCount q ≤ i) : lookup n q p i fallback = fallback :=
  if_neg (Nat.not_lt.mpr h)

/-- Byte `i` of the table, where `i` lies in the index range of register `j`. -/
theorem tableByte_of_mem_range {q : RegSize} {p : Inputs} {i j : Nat} (hlo : j * byteCount q ≤ i)
    (hhi : i < (j + 1) * byteCount q) : p.tableByte q i = lane 8 (p.table j) (i - j * byteCount q) := by
  have hdiv : i / byteCount q = j := Nat.div_eq_of_lt_le hlo hhi
  have hmod : i % byteCount q = i - j * byteCount q := by
    rw [Nat.mod_eq_sub_div_mul, hdiv]
  rw [Inputs.tableByte, hdiv, hmod]

/-- The first `n` registers in turn, for any number of them: the induction goes beyond the four a command has. -/
theorem lookupSelect_eq_ite (q : RegSize) (p : Inputs) (i : Nat) (fallback : BitVec 8) (n : Nat) :
    lookupSelect q p i fallback n = if i < n * byteCount q then p.tableByte q i else fallback := by
  induction n with
  | zero => simp [lookupSelect]
  | succ j ih =>
    rw [lookupSelect]
    split
    next hrange =>
      obtain ⟨hlo, hhi⟩ := hrange
      rw [if_pos hhi, tableByte_of_mem_range hlo hhi]
    next hrange =>
      have hstep : (j + 1) * byteCount q = j * byteCount q + byteCount q := Nat.succ_mul j _
      have hbelow : i < (j + 1) * byteCount q ↔ i < j * byteCount q := by omega
      simp only [ih, hbelow]

/-- Settles O47: the lookup is the selection over the registers of its table. -/
theorem rangeAndSelectEqualsLookup : Obligations.RangeAndSelectEqualsLookup := by
  intro n q p i fallback
  rw [lookupSelect_eq_ite, lookup]

/-! ## Tables of different sizes (44_table_lookup.md section 3) -/

theorem exec_ofTbl_lane {n : TableCount} {q : RegSize} {t : Sign} {s s₁ : State} {k : Nat}
    (h : exec (.ofTbl n q t) s = .next s₁) (hk : k < byteCount q) :
    lane 8 s₁.outputs.r k = lookup n q s.inputs (lane 8 s.inputs.a k).toNat 0 := by
  rw [exec_ofTbl] at h
  exact (tbl_drivesLanes n q s).lane_of_next h hk

theorem exec_ofTbx_lane {n : TableCount} {q : RegSize} {t : Sign} {s s₁ : State} {k : Nat}
    (h : exec (.ofTbx n q t) s = .next s₁) (hk : k < byteCount q) :
    lane 8 s₁.outputs.r k = lookup n q s.inputs (lane 8 s.inputs.a k).toNat (lane 8 s.inputs.b k) := by
  rw [exec_ofTbx] at h
  exact (tbx_drivesLanes n q s).lane_of_next h hk

/-- The fallback lanes of `B = 0` are the zero that `tbl` falls back to. -/
theorem exec_ofTbl_eq_ofTbx_of_b_eq_zero (n : TableCount) (q : RegSize) (t : Sign) {s : State} (hb : s.inputs.b = 0) :
    exec (.ofTbl n q t) s = exec (.ofTbx n q t) s := by
  simp only [exec_ofTbl, exec_ofTbx, tbl, tbx, hb, lane_zero]

theorem tableByte_of_lt_byteCount {q : RegSize} {p : Inputs} {i : Nat} (h : i < byteCount q) :
    p.tableByte q i = lane 8 p.t0 i := by
  rw [Inputs.tableByte, Nat.div_eq_of_lt h, Nat.mod_eq_of_lt h, Inputs.table]

/-- A table of one register, read at an index of its own. -/
theorem lookup_one_of_lt {q : RegSize} {p : Inputs} {i : Nat} {fallback : BitVec 8} (h : i < byteCount q) :
    lookup .one q p i fallback = lane 8 p.t0 i := by
  have hrange : i < TableCount.one.count * byteCount q := by rwa [TableCount.count, Nat.one_mul]
  rw [lookup_of_lt hrange, tableByte_of_lt_byteCount h]

/-- Settles O56: an index in range selects a byte that does not depend on the table count. -/
theorem tableLookupsOfDifferentSizesAgree : Obligations.TableLookupsOfDifferentSizesAgree := by
  intro q t s
  refine ⟨fun n hb => exec_ofTbl_eq_ofTbx_of_b_eq_zero n q t hb, fun m n k s₁ s₂ hmn hk hidx h₁ h₂ => ?sizes,
    fun n k s₁ hk hidx h => ?fallback, fun p hp => ?permutation⟩
  case sizes =>
    have hidx' : (lane 8 s.inputs.a k).toNat < n.count * byteCount q :=
      Nat.lt_of_lt_of_le hidx (Nat.mul_le_mul_right _ hmn.le)
    rw [exec_ofTbl_lane h₁ hk, exec_ofTbl_lane h₂ hk, lookup_of_lt hidx, lookup_of_lt hidx']
  case fallback => rw [exec_ofTbx_lane h hk, lookup_of_le hidx]
  case permutation =>
    rw [exec_ofTbl]
    refine (tbl_drivesLanes .one q s).congr fun k hk => ?_
    rw [dif_pos hk, hp ⟨k, hk⟩, lookup_one_of_lt (p ⟨k, hk⟩).isLt]

end Sys2Proof.Machine
end
